-- ==== Sys2Proof/Word.lean ====
section
/-! DEFINITION. The word and byte types (R11). -/

namespace Sys2Proof

/-- A word: 32 bits, arithmetic modulo 2^32 (R11). -/
abbrev Word := BitVec 32

/-- A byte: 8 bits (R11). -/
abbrev Byte := BitVec 8

end Sys2Proof
end

