-- ==== Sys2Proof/Syntax.lean ====
section
/-! DEFINITION. The abstract syntax: the enumerations of the spec and the one inductive of instructions,
a constructor per row of spec/opcode_table.json. -/

namespace Sys2Proof

/-- The seven modes (R21), in the order of R31's table. -/
inductive Mode where
  | usr | fiq | irq | svc | abt | und | sys
deriving DecidableEq, Repr, Inhabited

/-- The eight trap kinds (R90), in slot order: the k-th has code k. -/
inductive TrapKind where
  | reset | und | swi | pabt | dabt | rsvd | irq | fiq
deriving DecidableEq, Repr, Inhabited

/-- The six banks of r13 and r14 (R22). -/
inductive Bank where
  | usr | fiq | irq | svc | abt | und
deriving DecidableEq, Repr, Inhabited

/-- The five banks that own a saved status word (R33); there is none for `usr` (R34). -/
inductive SpsrBank where
  | fiq | irq | svc | abt | und
deriving DecidableEq, Repr, Inhabited

/-- The three return adjustments (R123, R262). -/
inductive Adjustment where
  | zero | minus4 | minus8
deriving DecidableEq, Repr, Inhabited

/-- The five formats of R91. -/
inductive Format where
  | trapKind | retKind | arm32 | callNum | uop
deriving DecidableEq, Repr, Inhabited

/-- What the executor presents to the block (R7, R108): the format, and the bytes of the code followed by
those of its operand words, each word little-endian. -/
structure Request where
  format : Format
  bytes : List Byte
deriving DecidableEq, Repr, Inhabited

/-- The instructions of spec/opcode_table.json, one constructor per row. An operand that the table lists
beside the code is an argument. -/
inductive Instr where
  /-- `TRAP_REQ.RESET` (R268). -/
  | trapReqReset (iaddr : Word)
  /-- `TRAP_REQ.UND` (R269). -/
  | trapReqUnd (iaddr : Word)
  /-- `TRAP_REQ.SWI` (R270). -/
  | trapReqSwi (iaddr : Word)
  /-- `TRAP_REQ.PABT` (R271). -/
  | trapReqPabt (iaddr : Word)
  /-- `TRAP_REQ.DABT` (R272). -/
  | trapReqDabt (iaddr : Word)
  /-- `TRAP_REQ.RSVD` (R273). -/
  | trapReqRsvd (iaddr : Word)
  /-- `TRAP_REQ.IRQ` (R274). -/
  | trapReqIrq (iaddr : Word)
  /-- `TRAP_REQ.FIQ` (R275). -/
  | trapReqFiq (iaddr : Word)
  /-- `EXC_RETURN.RESET` (R277). -/
  | excReturnReset
  /-- `EXC_RETURN.UND` (R278). -/
  | excReturnUnd
  /-- `EXC_RETURN.SWI` (R279). -/
  | excReturnSwi
  /-- `EXC_RETURN.PABT` (R280). -/
  | excReturnPabt
  /-- `EXC_RETURN.DABT` (R281). -/
  | excReturnDabt
  /-- `EXC_RETURN.RSVD` (R282). -/
  | excReturnRsvd
  /-- `EXC_RETURN.IRQ` (R283). -/
  | excReturnIrq
  /-- `EXC_RETURN.FIQ` (R284). -/
  | excReturnFiq
  /-- `movs pc, lr` (R99). -/
  | movsPcLr
  /-- `subs pc, lr, #4` (R99). -/
  | subsPcLr4
  /-- `subs pc, lr, #8` (R99). -/
  | subsPcLr8
  /-- The vector-slot branch (R97, R98). -/
  | b (off24 : BitVec 24)
  /-- `SWI` with call number 0x00 (R186, R150): the condition and bits 23:8 of the immediate. -/
  | swiSoftReset (cond : BitVec 4) (immHi : BitVec 16)
  /-- `SWI` with call number 0x01 (R187, R150): the condition and bits 23:8 of the immediate. -/
  | swiRegisterRamReset (cond : BitVec 4) (immHi : BitVec 16)
  /-- `SWI` with call number 0x02 (R188, R150): the condition and bits 23:8 of the immediate. -/
  | swiHalt (cond : BitVec 4) (immHi : BitVec 16)
  /-- `SWI` with call number 0x03 (R189, R150): the condition and bits 23:8 of the immediate. -/
  | swiStop (cond : BitVec 4) (immHi : BitVec 16)
  /-- `SWI` with call number 0x04 (R190, R150): the condition and bits 23:8 of the immediate. -/
  | swiIntrWait (cond : BitVec 4) (immHi : BitVec 16)
  /-- `SWI` with call number 0x05 (R191, R150): the condition and bits 23:8 of the immediate. -/
  | swiVBlankIntrWait (cond : BitVec 4) (immHi : BitVec 16)
  /-- `SWI` with call number 0x06 (R192, R150): the condition and bits 23:8 of the immediate. -/
  | swiDiv (cond : BitVec 4) (immHi : BitVec 16)
  /-- `SWI` with call number 0x07 (R193, R150): the condition and bits 23:8 of the immediate. -/
  | swiDivArm (cond : BitVec 4) (immHi : BitVec 16)
  /-- `SWI` with call number 0x08 (R194, R150): the condition and bits 23:8 of the immediate. -/
  | swiSqrt (cond : BitVec 4) (immHi : BitVec 16)
  /-- `SWI` with call number 0x09 (R195, R150): the condition and bits 23:8 of the immediate. -/
  | swiArcTan (cond : BitVec 4) (immHi : BitVec 16)
  /-- `SWI` with call number 0x0A (R196, R150): the condition and bits 23:8 of the immediate. -/
  | swiArcTan2 (cond : BitVec 4) (immHi : BitVec 16)
  /-- `SWI` with call number 0x0B (R197, R150): the condition and bits 23:8 of the immediate. -/
  | swiCpuSet (cond : BitVec 4) (immHi : BitVec 16)
  /-- `SWI` with call number 0x0C (R198, R150): the condition and bits 23:8 of the immediate. -/
  | swiCpuFastSet (cond : BitVec 4) (immHi : BitVec 16)
  /-- `SWI` with call number 0x0D (R199, R150): the condition and bits 23:8 of the immediate. -/
  | swiGetBiosChecksum (cond : BitVec 4) (immHi : BitVec 16)
  /-- `SWI` with call number 0x0E (R200, R150): the condition and bits 23:8 of the immediate. -/
  | swiBgAffineSet (cond : BitVec 4) (immHi : BitVec 16)
  /-- `SWI` with call number 0x0F (R201, R150): the condition and bits 23:8 of the immediate. -/
  | swiObjAffineSet (cond : BitVec 4) (immHi : BitVec 16)
  /-- `SWI` with call number 0x10 (R202, R150): the condition and bits 23:8 of the immediate. -/
  | swiBitUnPack (cond : BitVec 4) (immHi : BitVec 16)
  /-- `SWI` with call number 0x11 (R203, R150): the condition and bits 23:8 of the immediate. -/
  | swiLZ77UnCompWram (cond : BitVec 4) (immHi : BitVec 16)
  /-- `SWI` with call number 0x12 (R204, R150): the condition and bits 23:8 of the immediate. -/
  | swiLZ77UnCompVram (cond : BitVec 4) (immHi : BitVec 16)
  /-- `SWI` with call number 0x13 (R205, R150): the condition and bits 23:8 of the immediate. -/
  | swiHuffUnComp (cond : BitVec 4) (immHi : BitVec 16)
  /-- `SWI` with call number 0x14 (R206, R150): the condition and bits 23:8 of the immediate. -/
  | swiRLUnCompWram (cond : BitVec 4) (immHi : BitVec 16)
  /-- `SWI` with call number 0x15 (R207, R150): the condition and bits 23:8 of the immediate. -/
  | swiRLUnCompVram (cond : BitVec 4) (immHi : BitVec 16)
  /-- `SWI` with call number 0x16 (R208, R150): the condition and bits 23:8 of the immediate. -/
  | swiDiff8bitUnFilterWram (cond : BitVec 4) (immHi : BitVec 16)
  /-- `SWI` with call number 0x17 (R209, R150): the condition and bits 23:8 of the immediate. -/
  | swiDiff8bitUnFilterVram (cond : BitVec 4) (immHi : BitVec 16)
  /-- `SWI` with call number 0x18 (R210, R150): the condition and bits 23:8 of the immediate. -/
  | swiDiff16bitUnFilter (cond : BitVec 4) (immHi : BitVec 16)
  /-- `SWI` with call number 0x19 (R211, R150): the condition and bits 23:8 of the immediate. -/
  | swiSoundBias (cond : BitVec 4) (immHi : BitVec 16)
  /-- `SWI` with call number 0x1A (R212, R150): the condition and bits 23:8 of the immediate. -/
  | swiSoundDriverInit (cond : BitVec 4) (immHi : BitVec 16)
  /-- `SWI` with call number 0x1B (R213, R150): the condition and bits 23:8 of the immediate. -/
  | swiSoundDriverMode (cond : BitVec 4) (immHi : BitVec 16)
  /-- `SWI` with call number 0x1C (R214, R150): the condition and bits 23:8 of the immediate. -/
  | swiSoundDriverMain (cond : BitVec 4) (immHi : BitVec 16)
  /-- `SWI` with call number 0x1D (R215, R150): the condition and bits 23:8 of the immediate. -/
  | swiSoundDriverVSync (cond : BitVec 4) (immHi : BitVec 16)
  /-- `SWI` with call number 0x1E (R216, R150): the condition and bits 23:8 of the immediate. -/
  | swiSoundChannelClear (cond : BitVec 4) (immHi : BitVec 16)
  /-- `SWI` with call number 0x1F (R217, R150): the condition and bits 23:8 of the immediate. -/
  | swiMidiKey2Freq (cond : BitVec 4) (immHi : BitVec 16)
  /-- `SWI` with call number 0x20 (R218, R150): the condition and bits 23:8 of the immediate. -/
  | swiMusicPlayerOpen (cond : BitVec 4) (immHi : BitVec 16)
  /-- `SWI` with call number 0x21 (R219, R150): the condition and bits 23:8 of the immediate. -/
  | swiMusicPlayerStart (cond : BitVec 4) (immHi : BitVec 16)
  /-- `SWI` with call number 0x22 (R220, R150): the condition and bits 23:8 of the immediate. -/
  | swiMusicPlayerStop (cond : BitVec 4) (immHi : BitVec 16)
  /-- `SWI` with call number 0x23 (R221, R150): the condition and bits 23:8 of the immediate. -/
  | swiMusicPlayerContinue (cond : BitVec 4) (immHi : BitVec 16)
  /-- `SWI` with call number 0x24 (R222, R150): the condition and bits 23:8 of the immediate. -/
  | swiMusicPlayerFadeOut (cond : BitVec 4) (immHi : BitVec 16)
  /-- `SWI` with call number 0x25 (R223, R150): the condition and bits 23:8 of the immediate. -/
  | swiMultiBoot (cond : BitVec 4) (immHi : BitVec 16)
  /-- `SWI` with call number 0x26 (R224, R150): the condition and bits 23:8 of the immediate. -/
  | swiHardReset (cond : BitVec 4) (immHi : BitVec 16)
  /-- `SWI` with call number 0x27 (R225, R150): the condition and bits 23:8 of the immediate. -/
  | swiCustomHalt (cond : BitVec 4) (immHi : BitVec 16)
  /-- `SWI` with call number 0x28 (R226, R150): the condition and bits 23:8 of the immediate. -/
  | swiSoundDriverVSyncOff (cond : BitVec 4) (immHi : BitVec 16)
  /-- `SWI` with call number 0x29 (R227, R150): the condition and bits 23:8 of the immediate. -/
  | swiSoundDriverVSyncOn (cond : BitVec 4) (immHi : BitVec 16)
  /-- `SWI` with call number 0x2A (R228, R150): the condition and bits 23:8 of the immediate. -/
  | swiSoundGetJumpList (cond : BitVec 4) (immHi : BitVec 16)
  /-- `SWI` with call number 0x2B (R229, R150): the condition and bits 23:8 of the immediate. -/
  | swiDebug (cond : BitVec 4) (immHi : BitVec 16)
  /-- `SWI` with a call number above 0x2B (R150, R159): the condition and the whole immediate. -/
  | swi (cond : BitVec 4) (imm24 : BitVec 24)
  /-- The handler of call 0x00 (R186). -/
  | callSoftReset
  /-- The handler of call 0x01 (R187). -/
  | callRegisterRamReset
  /-- The handler of call 0x02 (R188). -/
  | callHalt
  /-- The handler of call 0x03 (R189). -/
  | callStop
  /-- The handler of call 0x04 (R190). -/
  | callIntrWait
  /-- The handler of call 0x05 (R191). -/
  | callVBlankIntrWait
  /-- The handler of call 0x06 (R192). -/
  | callDiv
  /-- The handler of call 0x07 (R193). -/
  | callDivArm
  /-- The handler of call 0x08 (R194). -/
  | callSqrt
  /-- The handler of call 0x09 (R195). -/
  | callArcTan
  /-- The handler of call 0x0A (R196). -/
  | callArcTan2
  /-- The handler of call 0x0B (R197). -/
  | callCpuSet
  /-- The handler of call 0x0C (R198). -/
  | callCpuFastSet
  /-- The handler of call 0x0D (R199). -/
  | callGetBiosChecksum
  /-- The handler of call 0x0E (R200). -/
  | callBgAffineSet
  /-- The handler of call 0x0F (R201). -/
  | callObjAffineSet
  /-- The handler of call 0x10 (R202). -/
  | callBitUnPack
  /-- The handler of call 0x11 (R203). -/
  | callLZ77UnCompWram
  /-- The handler of call 0x12 (R204). -/
  | callLZ77UnCompVram
  /-- The handler of call 0x13 (R205). -/
  | callHuffUnComp
  /-- The handler of call 0x14 (R206). -/
  | callRLUnCompWram
  /-- The handler of call 0x15 (R207). -/
  | callRLUnCompVram
  /-- The handler of call 0x16 (R208). -/
  | callDiff8bitUnFilterWram
  /-- The handler of call 0x17 (R209). -/
  | callDiff8bitUnFilterVram
  /-- The handler of call 0x18 (R210). -/
  | callDiff16bitUnFilter
  /-- The handler of call 0x19 (R211). -/
  | callSoundBias
  /-- The handler of call 0x1A (R212). -/
  | callSoundDriverInit
  /-- The handler of call 0x1B (R213). -/
  | callSoundDriverMode
  /-- The handler of call 0x1C (R214). -/
  | callSoundDriverMain
  /-- The handler of call 0x1D (R215). -/
  | callSoundDriverVSync
  /-- The handler of call 0x1E (R216). -/
  | callSoundChannelClear
  /-- The handler of call 0x1F (R217). -/
  | callMidiKey2Freq
  /-- The handler of call 0x20 (R218). -/
  | callMusicPlayerOpen
  /-- The handler of call 0x21 (R219). -/
  | callMusicPlayerStart
  /-- The handler of call 0x22 (R220). -/
  | callMusicPlayerStop
  /-- The handler of call 0x23 (R221). -/
  | callMusicPlayerContinue
  /-- The handler of call 0x24 (R222). -/
  | callMusicPlayerFadeOut
  /-- The handler of call 0x25 (R223). -/
  | callMultiBoot
  /-- The handler of call 0x26 (R224). -/
  | callHardReset
  /-- The handler of call 0x27 (R225). -/
  | callCustomHalt
  /-- The handler of call 0x28 (R226). -/
  | callSoundDriverVSyncOff
  /-- The handler of call 0x29 (R227). -/
  | callSoundDriverVSyncOn
  /-- The handler of call 0x2A (R228). -/
  | callSoundGetJumpList
  /-- The handler of call 0x2B (R229). -/
  | callDebug
  /-- A call number above 0x2B (R159). -/
  | callOutOfRange (n : Byte)
  /-- R121. -/
  | enterMode (m : Mode)
  /-- R122. -/
  | saveStatus (m : Mode)
  /-- R123. -/
  | restoreStatus (m : Mode) (adj : Adjustment)
  /-- R126. -/
  | readReg (i : Fin 16)
  /-- R127. -/
  | writeReg (i : Fin 16) (v : Word)
  /-- R128. -/
  | readCpsr
  /-- R129: the value and the two members of the field mask. -/
  | writeCpsr (v : Word) (flags control : Bool)
  /-- R130. -/
  | readSpsr
  /-- R131. -/
  | writeSpsr (v : Word)
  /-- R267. -/
  | trapReq (k : TrapKind) (iaddr : Word)
  /-- R285. -/
  | boundary (next : Word)
  /-- R158. -/
  | routerResume
deriving DecidableEq, Repr

end Sys2Proof
end

