-- ==== Sys2Proof/WellFormed.lean ====
section
/-! DEFINITION. Which terms of Instr are instructions: the catch-all rows hold only call numbers that no
other row takes. -/

namespace Sys2Proof

/-- Call numbers above 0x2B are off the end of the call table (R94). -/
def callNumberInRange (n : Byte) : Bool := n.toNat < 44

/-- The generic SWI row and the generic call row are matched last (R108(3)): they stand for call numbers
0x2C to 0xFF only. Every other operand is well formed by its type (R100, R126). -/
def Instr.wellFormed : Instr → Bool
  | .swi _ imm24 => !callNumberInRange (imm24.extractLsb' 0 8)
  | .callOutOfRange n => !callNumberInRange n
  | _ => true

end Sys2Proof
end

