-- ==== Sys2Proof/Decode.lean ====
section
/-! DEFINITION. The decoder of R108 over what is presented to the block, total and rejecting by name, and
the encoder written from the same tables. -/

namespace Sys2Proof

/-- Why a presented code is rejected. -/
inductive DecodeError where
  /-- Fewer bytes than the code and its operands take. -/
  | truncated
  /-- A UOP code 1100 to 1111 (R101, R102(d)). -/
  | reservedUop
  /-- A code byte with a bit set above the format's width (log 8). -/
  | badCode
  /-- An operand word outside the operand's range (log 8). -/
  | badOperand
  /-- An ARM32 word that is none of the block's (R108(2)): the executor's. -/
  | notTheBlocks
deriving DecidableEq, Repr, Inhabited

/-! ### Bytes and words -/

/-- Little-endian (R63). -/
def bytesOfWord (w : Word) : List Byte :=
  [w.extractLsb' 0 8, w.extractLsb' 8 8, w.extractLsb' 16 8, w.extractLsb' 24 8]

/-- Little-endian (R63): `b0` is the byte at the lowest address. -/
def wordOfBytes (b0 b1 b2 b3 : Byte) : Word := b3 ++ b2 ++ b1 ++ b0

/-- One operand word, and the bytes after it. -/
def takeWord : List Byte → Except DecodeError (Word × List Byte)
  | b0 :: b1 :: b2 :: b3 :: rest => .ok (wordOfBytes b0 b1 b2 b3, rest)
  | _ => .error .truncated

/-! ### Operands (log 8) -/

/-- The code of a trap kind (R90). -/
def TrapKind.code : TrapKind → Nat
  | .reset => 0 | .und => 1 | .swi => 2 | .pabt => 3 | .dabt => 4 | .rsvd => 5 | .irq => 6 | .fiq => 7

/-- The trap kind of a 3-bit code (R90: all eight values are defined). -/
def trapKindOfCode (n : Nat) : Except DecodeError TrapKind :=
  match n with
  | 0 => .ok .reset | 1 => .ok .und | 2 => .ok .swi | 3 => .ok .pabt
  | 4 => .ok .dabt | 5 => .ok .rsvd | 6 => .ok .irq | 7 => .ok .fiq
  | _ => .error .badOperand

/-- The mode operand: its place in the enumeration (R100: not a raw 5-bit number). DESIGN CHOICE (log 8). -/
def modeOperand : Mode → Word
  | .usr => 0 | .fiq => 1 | .irq => 2 | .svc => 3 | .abt => 4 | .und => 5 | .sys => 6

/-- The inverse of `modeOperand`. -/
def modeOfOperand (w : Word) : Except DecodeError Mode :=
  match w.toNat with
  | 0 => .ok .usr | 1 => .ok .fiq | 2 => .ok .irq | 3 => .ok .svc
  | 4 => .ok .abt | 5 => .ok .und | 6 => .ok .sys
  | _ => .error .badOperand

/-- The adjustments as words (R123, R262). -/
def Adjustment.word : Adjustment → Word
  | .zero => 0x00000000
  | .minus4 => 0xFFFFFFFC
  | .minus8 => 0xFFFFFFF8

/-- The inverse of `Adjustment.word`. -/
def adjustmentOfWord (w : Word) : Except DecodeError Adjustment :=
  if w = 0x00000000 then .ok .zero
  else if w = 0xFFFFFFFC then .ok .minus4
  else if w = 0xFFFFFFF8 then .ok .minus8
  else .error .badOperand

/-- A register index 0 to 15 (R126). -/
def indexOfWord (w : Word) : Except DecodeError (Fin 16) :=
  if h : w.toNat < 16 then .ok ⟨w.toNat, h⟩ else .error .badOperand

/-- The field mask of WRITE_CPSR (R129): bit 0 flags, bit 1 control. DESIGN CHOICE (log 8). -/
def maskOperand (flags control : Bool) : Word :=
  match flags, control with
  | false, false => 0 | true, false => 1 | false, true => 2 | true, true => 3

/-- The inverse of `maskOperand`. -/
def maskOfOperand (w : Word) : Except DecodeError (Bool × Bool) :=
  match w.toNat with
  | 0 => .ok (false, false) | 1 => .ok (true, false) | 2 => .ok (false, true) | 3 => .ok (true, true)
  | _ => .error .badOperand

/-! ### The tables -/

/-- The SWI rows by call number 0x00 to 0x2B (R94, R108(3)). -/
def swiTable : List (BitVec 4 → BitVec 16 → Instr) :=
  [.swiSoftReset, .swiRegisterRamReset, .swiHalt, .swiStop, .swiIntrWait, .swiVBlankIntrWait,
   .swiDiv, .swiDivArm, .swiSqrt, .swiArcTan, .swiArcTan2, .swiCpuSet,
   .swiCpuFastSet, .swiGetBiosChecksum, .swiBgAffineSet, .swiObjAffineSet, .swiBitUnPack, .swiLZ77UnCompWram,
   .swiLZ77UnCompVram, .swiHuffUnComp, .swiRLUnCompWram, .swiRLUnCompVram, .swiDiff8bitUnFilterWram, .swiDiff8bitUnFilterVram,
   .swiDiff16bitUnFilter, .swiSoundBias, .swiSoundDriverInit, .swiSoundDriverMode, .swiSoundDriverMain, .swiSoundDriverVSync,
   .swiSoundChannelClear, .swiMidiKey2Freq, .swiMusicPlayerOpen, .swiMusicPlayerStart, .swiMusicPlayerStop, .swiMusicPlayerContinue,
   .swiMusicPlayerFadeOut, .swiMultiBoot, .swiHardReset, .swiCustomHalt, .swiSoundDriverVSyncOff, .swiSoundDriverVSyncOn,
   .swiSoundGetJumpList, .swiDebug]

/-- The call rows by call number 0x00 to 0x2B (R94). -/
def callTable : List Instr :=
  [.callSoftReset, .callRegisterRamReset, .callHalt, .callStop, .callIntrWait, .callVBlankIntrWait,
   .callDiv, .callDivArm, .callSqrt, .callArcTan, .callArcTan2, .callCpuSet,
   .callCpuFastSet, .callGetBiosChecksum, .callBgAffineSet, .callObjAffineSet, .callBitUnPack, .callLZ77UnCompWram,
   .callLZ77UnCompVram, .callHuffUnComp, .callRLUnCompWram, .callRLUnCompVram, .callDiff8bitUnFilterWram, .callDiff8bitUnFilterVram,
   .callDiff16bitUnFilter, .callSoundBias, .callSoundDriverInit, .callSoundDriverMode, .callSoundDriverMain, .callSoundDriverVSync,
   .callSoundChannelClear, .callMidiKey2Freq, .callMusicPlayerOpen, .callMusicPlayerStart, .callMusicPlayerStop, .callMusicPlayerContinue,
   .callMusicPlayerFadeOut, .callMultiBoot, .callHardReset, .callCustomHalt, .callSoundDriverVSyncOff, .callSoundDriverVSyncOn,
   .callSoundGetJumpList, .callDebug]

/-- A call number: its row, else the out-of-range row (R108(3)). -/
def decodeCall (n : Byte) : Instr :=
  match callTable[n.toNat]? with
  | some i => i
  | none => .callOutOfRange n

/-- An SWI word: the row of its low byte, else the generic row (R92, R93, R108(3)). -/
def decodeSwi (cond : BitVec 4) (imm24 : BitVec 24) : Instr :=
  match swiTable[(imm24.extractLsb' 0 8).toNat]? with
  | some f => f cond (imm24.extractLsb' 8 16)
  | none => .swi cond imm24

/-- `movs pc, lr` (R99). -/
def movsPcLrWord : Word := 0xE1B0F00E
/-- `subs pc, lr, #4` (R99). -/
def subsPcLr4Word : Word := 0xE25EF004
/-- `subs pc, lr, #8` (R99). -/
def subsPcLr8Word : Word := 0xE25EF008

/-- An ARM32 word, in the order of R108(2): the three return words, the branch, the SWI. -/
def decodeArm32 (w : Word) : Except DecodeError Instr :=
  if w = movsPcLrWord then .ok .movsPcLr
  else if w = subsPcLr4Word then .ok .subsPcLr4
  else if w = subsPcLr8Word then .ok .subsPcLr8
  else if w.extractLsb' 24 8 = 0xEA then .ok (.b (w.extractLsb' 0 24))
  else if w.extractLsb' 24 4 = 0xF then .ok (decodeSwi (w.extractLsb' 28 4) (w.extractLsb' 0 24))
  else .error .notTheBlocks

/-- A trap request (R90). -/
def decodeTrap (code : Byte) (rest : List Byte) : Except DecodeError (Instr × List Byte) := do
  if 8 ≤ code.toNat then throw .badCode
  let (iaddr, rest) ← takeWord rest
  match code.toNat with
  | 0 => pure (.trapReqReset iaddr, rest)
  | 1 => pure (.trapReqUnd iaddr, rest)
  | 2 => pure (.trapReqSwi iaddr, rest)
  | 3 => pure (.trapReqPabt iaddr, rest)
  | 4 => pure (.trapReqDabt iaddr, rest)
  | 5 => pure (.trapReqRsvd iaddr, rest)
  | 6 => pure (.trapReqIrq iaddr, rest)
  | _ => pure (.trapReqFiq iaddr, rest)

/-- The kind operand of EXC_RETURN (R91). -/
def decodeReturn (code : Byte) (rest : List Byte) : Except DecodeError (Instr × List Byte) :=
  match code.toNat with
  | 0 => .ok (.excReturnReset, rest)
  | 1 => .ok (.excReturnUnd, rest)
  | 2 => .ok (.excReturnSwi, rest)
  | 3 => .ok (.excReturnPabt, rest)
  | 4 => .ok (.excReturnDabt, rest)
  | 5 => .ok (.excReturnRsvd, rest)
  | 6 => .ok (.excReturnIrq, rest)
  | 7 => .ok (.excReturnFiq, rest)
  | _ => .error .badCode

/-- An internal operation (R101), its operand words after the code. -/
def decodeUop (code : Byte) (rest : List Byte) : Except DecodeError (Instr × List Byte) :=
  match code.toNat with
  | 0 => do
    let (m, rest) ← takeWord rest
    pure (.enterMode (← modeOfOperand m), rest)
  | 1 => do
    let (m, rest) ← takeWord rest
    pure (.saveStatus (← modeOfOperand m), rest)
  | 2 => do
    let (m, rest) ← takeWord rest
    let (adj, rest) ← takeWord rest
    pure (.restoreStatus (← modeOfOperand m) (← adjustmentOfWord adj), rest)
  | 3 => do
    let (r, rest) ← takeWord rest
    pure (.readReg (← indexOfWord r), rest)
  | 4 => do
    let (r, rest) ← takeWord rest
    let (v, rest) ← takeWord rest
    pure (.writeReg (← indexOfWord r) v, rest)
  | 5 => .ok (.readCpsr, rest)
  | 6 => do
    let (v, rest) ← takeWord rest
    let (f, rest) ← takeWord rest
    let (flags, control) ← maskOfOperand f
    pure (.writeCpsr v flags control, rest)
  | 7 => .ok (.readSpsr, rest)
  | 8 => do
    let (v, rest) ← takeWord rest
    pure (.writeSpsr v, rest)
  | 9 => do
    let (k, rest) ← takeWord rest
    let (iaddr, rest) ← takeWord rest
    pure (.trapReq (← trapKindOfCode k.toNat) iaddr, rest)
  | 10 => do
    let (next, rest) ← takeWord rest
    pure (.boundary next, rest)
  | 11 => .ok (.routerResume, rest)
  | 12 | 13 | 14 | 15 => .error .reservedUop
  | _ => .error .badCode

/-- The decoder (R108): the instruction at the head of the presented bytes, and the bytes after it. -/
def decode (q : Request) : Except DecodeError (Instr × List Byte) :=
  match q.format, q.bytes with
  | _, [] => .error .truncated
  | .trapKind, code :: rest => decodeTrap code rest
  | .retKind, code :: rest => decodeReturn code rest
  | .callNum, code :: rest => .ok (decodeCall code, rest)
  | .uop, code :: rest => decodeUop code rest
  | .arm32, bytes => do
    let (w, rest) ← takeWord bytes
    pure (← decodeArm32 w, rest)

/-! ### The encoder -/

/-- `cond 1111 imm24` (R92). -/
def swiWord (cond : BitVec 4) (imm24 : BitVec 24) : Word := cond ++ 0xF#4 ++ imm24

/-- An ARM32 word as it is presented. -/
def arm32Request (w : Word) : Request := ⟨.arm32, bytesOfWord w⟩

/-- The encoder: format, code and operand words of an instruction (R90, R92, R94, R97, R99, R101). -/
def encode : Instr → Request
  | .trapReqReset iaddr => ⟨.trapKind, 0 :: bytesOfWord iaddr⟩
  | .trapReqUnd iaddr => ⟨.trapKind, 1 :: bytesOfWord iaddr⟩
  | .trapReqSwi iaddr => ⟨.trapKind, 2 :: bytesOfWord iaddr⟩
  | .trapReqPabt iaddr => ⟨.trapKind, 3 :: bytesOfWord iaddr⟩
  | .trapReqDabt iaddr => ⟨.trapKind, 4 :: bytesOfWord iaddr⟩
  | .trapReqRsvd iaddr => ⟨.trapKind, 5 :: bytesOfWord iaddr⟩
  | .trapReqIrq iaddr => ⟨.trapKind, 6 :: bytesOfWord iaddr⟩
  | .trapReqFiq iaddr => ⟨.trapKind, 7 :: bytesOfWord iaddr⟩
  | .excReturnReset => ⟨.retKind, [0]⟩
  | .excReturnUnd => ⟨.retKind, [1]⟩
  | .excReturnSwi => ⟨.retKind, [2]⟩
  | .excReturnPabt => ⟨.retKind, [3]⟩
  | .excReturnDabt => ⟨.retKind, [4]⟩
  | .excReturnRsvd => ⟨.retKind, [5]⟩
  | .excReturnIrq => ⟨.retKind, [6]⟩
  | .excReturnFiq => ⟨.retKind, [7]⟩
  | .movsPcLr => arm32Request movsPcLrWord
  | .subsPcLr4 => arm32Request subsPcLr4Word
  | .subsPcLr8 => arm32Request subsPcLr8Word
  | .b off24 => arm32Request (0xEA#8 ++ off24)
  | .swiSoftReset cond immHi => arm32Request (swiWord cond (immHi ++ 0x00#8))
  | .swiRegisterRamReset cond immHi => arm32Request (swiWord cond (immHi ++ 0x01#8))
  | .swiHalt cond immHi => arm32Request (swiWord cond (immHi ++ 0x02#8))
  | .swiStop cond immHi => arm32Request (swiWord cond (immHi ++ 0x03#8))
  | .swiIntrWait cond immHi => arm32Request (swiWord cond (immHi ++ 0x04#8))
  | .swiVBlankIntrWait cond immHi => arm32Request (swiWord cond (immHi ++ 0x05#8))
  | .swiDiv cond immHi => arm32Request (swiWord cond (immHi ++ 0x06#8))
  | .swiDivArm cond immHi => arm32Request (swiWord cond (immHi ++ 0x07#8))
  | .swiSqrt cond immHi => arm32Request (swiWord cond (immHi ++ 0x08#8))
  | .swiArcTan cond immHi => arm32Request (swiWord cond (immHi ++ 0x09#8))
  | .swiArcTan2 cond immHi => arm32Request (swiWord cond (immHi ++ 0x0A#8))
  | .swiCpuSet cond immHi => arm32Request (swiWord cond (immHi ++ 0x0B#8))
  | .swiCpuFastSet cond immHi => arm32Request (swiWord cond (immHi ++ 0x0C#8))
  | .swiGetBiosChecksum cond immHi => arm32Request (swiWord cond (immHi ++ 0x0D#8))
  | .swiBgAffineSet cond immHi => arm32Request (swiWord cond (immHi ++ 0x0E#8))
  | .swiObjAffineSet cond immHi => arm32Request (swiWord cond (immHi ++ 0x0F#8))
  | .swiBitUnPack cond immHi => arm32Request (swiWord cond (immHi ++ 0x10#8))
  | .swiLZ77UnCompWram cond immHi => arm32Request (swiWord cond (immHi ++ 0x11#8))
  | .swiLZ77UnCompVram cond immHi => arm32Request (swiWord cond (immHi ++ 0x12#8))
  | .swiHuffUnComp cond immHi => arm32Request (swiWord cond (immHi ++ 0x13#8))
  | .swiRLUnCompWram cond immHi => arm32Request (swiWord cond (immHi ++ 0x14#8))
  | .swiRLUnCompVram cond immHi => arm32Request (swiWord cond (immHi ++ 0x15#8))
  | .swiDiff8bitUnFilterWram cond immHi => arm32Request (swiWord cond (immHi ++ 0x16#8))
  | .swiDiff8bitUnFilterVram cond immHi => arm32Request (swiWord cond (immHi ++ 0x17#8))
  | .swiDiff16bitUnFilter cond immHi => arm32Request (swiWord cond (immHi ++ 0x18#8))
  | .swiSoundBias cond immHi => arm32Request (swiWord cond (immHi ++ 0x19#8))
  | .swiSoundDriverInit cond immHi => arm32Request (swiWord cond (immHi ++ 0x1A#8))
  | .swiSoundDriverMode cond immHi => arm32Request (swiWord cond (immHi ++ 0x1B#8))
  | .swiSoundDriverMain cond immHi => arm32Request (swiWord cond (immHi ++ 0x1C#8))
  | .swiSoundDriverVSync cond immHi => arm32Request (swiWord cond (immHi ++ 0x1D#8))
  | .swiSoundChannelClear cond immHi => arm32Request (swiWord cond (immHi ++ 0x1E#8))
  | .swiMidiKey2Freq cond immHi => arm32Request (swiWord cond (immHi ++ 0x1F#8))
  | .swiMusicPlayerOpen cond immHi => arm32Request (swiWord cond (immHi ++ 0x20#8))
  | .swiMusicPlayerStart cond immHi => arm32Request (swiWord cond (immHi ++ 0x21#8))
  | .swiMusicPlayerStop cond immHi => arm32Request (swiWord cond (immHi ++ 0x22#8))
  | .swiMusicPlayerContinue cond immHi => arm32Request (swiWord cond (immHi ++ 0x23#8))
  | .swiMusicPlayerFadeOut cond immHi => arm32Request (swiWord cond (immHi ++ 0x24#8))
  | .swiMultiBoot cond immHi => arm32Request (swiWord cond (immHi ++ 0x25#8))
  | .swiHardReset cond immHi => arm32Request (swiWord cond (immHi ++ 0x26#8))
  | .swiCustomHalt cond immHi => arm32Request (swiWord cond (immHi ++ 0x27#8))
  | .swiSoundDriverVSyncOff cond immHi => arm32Request (swiWord cond (immHi ++ 0x28#8))
  | .swiSoundDriverVSyncOn cond immHi => arm32Request (swiWord cond (immHi ++ 0x29#8))
  | .swiSoundGetJumpList cond immHi => arm32Request (swiWord cond (immHi ++ 0x2A#8))
  | .swiDebug cond immHi => arm32Request (swiWord cond (immHi ++ 0x2B#8))
  | .swi cond imm24 => arm32Request (swiWord cond imm24)
  | .callSoftReset => ⟨.callNum, [0x00]⟩
  | .callRegisterRamReset => ⟨.callNum, [0x01]⟩
  | .callHalt => ⟨.callNum, [0x02]⟩
  | .callStop => ⟨.callNum, [0x03]⟩
  | .callIntrWait => ⟨.callNum, [0x04]⟩
  | .callVBlankIntrWait => ⟨.callNum, [0x05]⟩
  | .callDiv => ⟨.callNum, [0x06]⟩
  | .callDivArm => ⟨.callNum, [0x07]⟩
  | .callSqrt => ⟨.callNum, [0x08]⟩
  | .callArcTan => ⟨.callNum, [0x09]⟩
  | .callArcTan2 => ⟨.callNum, [0x0A]⟩
  | .callCpuSet => ⟨.callNum, [0x0B]⟩
  | .callCpuFastSet => ⟨.callNum, [0x0C]⟩
  | .callGetBiosChecksum => ⟨.callNum, [0x0D]⟩
  | .callBgAffineSet => ⟨.callNum, [0x0E]⟩
  | .callObjAffineSet => ⟨.callNum, [0x0F]⟩
  | .callBitUnPack => ⟨.callNum, [0x10]⟩
  | .callLZ77UnCompWram => ⟨.callNum, [0x11]⟩
  | .callLZ77UnCompVram => ⟨.callNum, [0x12]⟩
  | .callHuffUnComp => ⟨.callNum, [0x13]⟩
  | .callRLUnCompWram => ⟨.callNum, [0x14]⟩
  | .callRLUnCompVram => ⟨.callNum, [0x15]⟩
  | .callDiff8bitUnFilterWram => ⟨.callNum, [0x16]⟩
  | .callDiff8bitUnFilterVram => ⟨.callNum, [0x17]⟩
  | .callDiff16bitUnFilter => ⟨.callNum, [0x18]⟩
  | .callSoundBias => ⟨.callNum, [0x19]⟩
  | .callSoundDriverInit => ⟨.callNum, [0x1A]⟩
  | .callSoundDriverMode => ⟨.callNum, [0x1B]⟩
  | .callSoundDriverMain => ⟨.callNum, [0x1C]⟩
  | .callSoundDriverVSync => ⟨.callNum, [0x1D]⟩
  | .callSoundChannelClear => ⟨.callNum, [0x1E]⟩
  | .callMidiKey2Freq => ⟨.callNum, [0x1F]⟩
  | .callMusicPlayerOpen => ⟨.callNum, [0x20]⟩
  | .callMusicPlayerStart => ⟨.callNum, [0x21]⟩
  | .callMusicPlayerStop => ⟨.callNum, [0x22]⟩
  | .callMusicPlayerContinue => ⟨.callNum, [0x23]⟩
  | .callMusicPlayerFadeOut => ⟨.callNum, [0x24]⟩
  | .callMultiBoot => ⟨.callNum, [0x25]⟩
  | .callHardReset => ⟨.callNum, [0x26]⟩
  | .callCustomHalt => ⟨.callNum, [0x27]⟩
  | .callSoundDriverVSyncOff => ⟨.callNum, [0x28]⟩
  | .callSoundDriverVSyncOn => ⟨.callNum, [0x29]⟩
  | .callSoundGetJumpList => ⟨.callNum, [0x2A]⟩
  | .callDebug => ⟨.callNum, [0x2B]⟩
  | .callOutOfRange n => ⟨.callNum, [n]⟩
  | .enterMode m => ⟨.uop, 0x0 :: bytesOfWord (modeOperand m)⟩
  | .saveStatus m => ⟨.uop, 0x1 :: bytesOfWord (modeOperand m)⟩
  | .restoreStatus m adj => ⟨.uop, 0x2 :: bytesOfWord (modeOperand m) ++ bytesOfWord adj.word⟩
  | .readReg r => ⟨.uop, 0x3 :: bytesOfWord (BitVec.ofNat 32 r.val)⟩
  | .writeReg r v => ⟨.uop, 0x4 :: bytesOfWord (BitVec.ofNat 32 r.val) ++ bytesOfWord v⟩
  | .readCpsr => ⟨.uop, [0x5]⟩
  | .writeCpsr v flags control => ⟨.uop, 0x6 :: bytesOfWord v ++ bytesOfWord (maskOperand flags control)⟩
  | .readSpsr => ⟨.uop, [0x7]⟩
  | .writeSpsr v => ⟨.uop, 0x8 :: bytesOfWord v⟩
  | .trapReq k iaddr => ⟨.uop, 0x9 :: bytesOfWord (BitVec.ofNat 32 k.code) ++ bytesOfWord iaddr⟩
  | .boundary next => ⟨.uop, 0xA :: bytesOfWord next⟩
  | .routerResume => ⟨.uop, [0xB]⟩

/-! ### The opcode table's numbering -/

/-- The low n bytes of w, least significant first. -/
def bytesOfNat : Nat → Nat → List Byte
  | 0, _ => []
  | n + 1, w => BitVec.ofNat 8 w :: bytesOfNat n (w / 256)

/-- The format of a table row by its number of bits: 32 is ARM32 alone, and in whole bytes the 3-bit and
4-bit rows cannot be told from the 8-bit call numbers, so 8 is CALLNUM (log 21). -/
def formatOfBits (nbits : Nat) : Format :=
  match nbits with
  | 3 => .trapKind
  | 4 => .uop
  | 8 => .callNum
  | _ => .arm32

/-- A table word as it is presented: its bytes, then zeros up to the longest instruction (nine bytes). -/
def tableRequest (nbits w : Nat) : Request :=
  ⟨formatOfBits nbits, bytesOfNat ((nbits + 7) / 8) (w % 2 ^ nbits) ++ List.replicate 8 0⟩

/-- The instruction the decoder reads from an instruction whose bits are w, numbered as
spec/opcode_table.json numbers them. -/
def decodeTableWord (nbits w : Nat) : Option Instr :=
  match decode (tableRequest nbits w) with
  | .ok (i, _) => some i
  | .error _ => none

end Sys2Proof
end

