-- ==== Sys2Proof/Config.lean ====
section
/-! DEFINITION. The parameters of R9 as plain data, and the free values: opaque constants, of which nothing
can be proved. `HANDLER_BODY` is opaque too and stands in Machine/State.lean, after State. -/

namespace Sys2Proof

/-- `SWI_OOR_POLICY` (R160). -/
inductive OorPolicy where
  /-- Read and jump, as the hardware does. -/
  | faithful
  /-- `fault SwiOutOfRange`. -/
  | fatal
deriving DecidableEq, Repr, Inhabited

/-- `MEM` (R61, R62), OPEN: the two kinds together are every total pair of `MemRead` and `MemWrite` (log 5). -/
inductive MemSystem where
  /-- "the simplest `MEM`, a total map from address to byte with no side effects" (R62). Its launch content is that
  byte at every address memory does not list, where the launch states one, else `any` (R79; log 4). -/
  | ordinary (launch : Option Byte)
  /-- "Anything else (unmapped ranges, device registers, misaligned rotation, faults)" (R62): every answer, and what
  an access does to the contents, is a free value (log 5). -/
  | other
deriving DecidableEq, Repr, Inhabited

/-- The parameters of R9 (but `HANDLER_BODY`), constant for a run (R38). -/
structure Params where
  vectorBase : Word
  fiqBankR8R12 : Bool
  callTableBase : Word
  hVec : Vector Word 8
  hCall : Vector Word 44
  routerRet : Word
  diagAddr : Word
  spIrq : Word
  spSvc : Word
  spSys : Word
  wramClearBase : Word
  entryFlagAddr : Word
  romEntry : Word
  ramEntry : Word
  oorPolicy : OorPolicy
  memory : MemSystem
deriving DecidableEq, Repr, Inhabited

/-- Instantiation E1 of 95_test_vectors.md section 0 for the OPEN addresses, the decided values of R9 for
the rest. E1's `MEM` is the ordinary one; the content of its memory at launch is left `any` here (R79).
DESIGN CHOICE (log 1): the spec calls E1 one legal choice; no statement rests on it. -/
def Params.e1 : Params where
  vectorBase := 0x00000000
  fiqBankR8R12 := true
  callTableBase := 0x00000100
  hVec := #v[0x300, 0x300, 0x40, 0x60, 0x64, 0x300, 0x68, 0x6C]
  hCall := #v[0x300, 0x204, 0x208, 0x20C, 0x210, 0x214, 0x218, 0x21C, 0x220, 0x224, 0x228, 0x22C,
    0x230, 0x234, 0x238, 0x23C, 0x240, 0x244, 0x248, 0x24C, 0x250, 0x254, 0x258, 0x25C,
    0x260, 0x264, 0x268, 0x26C, 0x270, 0x274, 0x278, 0x27C, 0x280, 0x284, 0x288, 0x28C,
    0x290, 0x294, 0x298, 0x29C, 0x2A0, 0x2A4, 0x2A8, 0x2AC]
  routerRet := 0x00000058
  diagAddr := 0x04FFFFF0
  spIrq := 0x03007FA0
  spSvc := 0x03007FE0
  spSys := 0x03007F00
  wramClearBase := 0x03007E00
  entryFlagAddr := 0x03007FFA
  romEntry := 0x08000000
  ramEntry := 0x02000000
  oorPolicy := .faithful
  memory := .ordinary none

/-- The n-th `any` of a run: R14[svc] and SPSR[svc] at Reset entry (R268). A free value (log 10). -/
opaque Config.anyWord : Nat → Word

/-- The launch content of ordinary memory at an address, where the launch states none (R62, R79: `any`). A free
value (log 4). -/
opaque Config.launchByte : Nat → Byte

/-- What another `MEM` than the ordinary one answers to a read, and its contents after it: from the run's count of
free values, the contents before, the address and the width. A free value (log 5). -/
opaque Config.memRead : Nat → List Host.Cell → Word → Nat → Word × List Host.Cell

/-- The contents of another `MEM` than the ordinary one after a write: as `Config.memRead`, and the value. A free
value (log 5). -/
opaque Config.memWrite : Nat → List Host.Cell → Word → Nat → Word → List Host.Cell

/-- Whether the executor finds a condition other than 1110 to hold, from the condition field and the flags
N, Z, C, V (R92). A free value: the spec gives no condition table (log 12). -/
opaque Config.condHolds : BitVec 4 → BitVec 4 → Bool

end Sys2Proof
end

