-- ==== Sys2Proof/Machine/State.lean ====
section
/-! DEFINITION. The state as plain data, the reasons a step can stop, and the state after reset. -/

namespace Sys2Proof.Machine

/-- A value per bank of r13 and r14 (R22, R23). -/
structure PerBank (α : Type) where
  usr : α
  fiq : α
  irq : α
  svc : α
  abt : α
  und : α
deriving DecidableEq, Repr, Inhabited

/-- A value per bank that owns a saved status word (R33). -/
structure PerSpsr (α : Type) where
  fiq : α
  irq : α
  svc : α
  abt : α
  und : α
deriving DecidableEq, Repr, Inhabited

/-- The numbered firmware steps that continue a sequence begun at a firmware entry: the router's steps 2 to 4
(R153 to R156; n is the call number step 2 has read) and the sequencer's S2 to S6 (R242 to R246). -/
inductive MicroStep where
  | routerRead
  | routerMode (n : Byte)
  | routerCall (n : Byte)
  | seqS2 | seqS3 | seqS4 | seqS5 | seqS6
deriving DecidableEq, Repr, Inhabited

/-- The cells of 10_state.md by which a numbered step is found again: `PC`, `CPSR.M`, and Supervisor mode's r13, r14
and saved status word, which tell one routed call from another (log 9). -/
structure Position where
  pc : Word
  mode : BitVec 5
  r13 : Word
  r14 : Word
  spsr : Word
deriving DecidableEq, Repr, Inhabited

/-- At this position that numbered step is next (log 9). -/
structure Pending where
  position : Position
  step : MicroStep
deriving DecidableEq, Repr, Inhabited

/-- The two interrupt request lines at one boundary (R36, R285). -/
structure Lines where
  fiq : Bool
  irq : Bool
deriving DecidableEq, Repr, Inhabited

/-- The fault reasons of R13. -/
inductive FaultReason where
  | noSpsr | invalidModeField | returnModeMismatch | routerReentry | routerNotInSvc
  | resumeWithoutRouter | swiOutOfRange
deriving DecidableEq, Repr, Inhabited

/-- The refusal reasons of R13. -/
inductive RefuseReason where
  | resetHasNoReturn | swiFromCompactState | enterModeFromUser
deriving DecidableEq, Repr, Inhabited

/-- The `outcome` cell (R37). -/
inductive Mark where
  | running
  | faulted (r : FaultReason)
  | refused (r : RefuseReason)
deriving DecidableEq, Repr, Inhabited

/-- The machine's state: R39's, then the model's own fields (INVENTORY.md, '## State'). -/
structure State where
  /-- r0 to r12, common to all modes but for R25 (R26). -/
  gpr : Vector Word 13
  /-- FIQ's private r8 to r12 (R25). -/
  fiqHi : Vector Word 5
  /-- `R13[b]` (R23). -/
  r13 : PerBank Word
  /-- `R14[b]` (R23). -/
  r14 : PerBank Word
  /-- `PC` (R28). -/
  pc : Word
  /-- `CPSR` (R29, R30). -/
  cpsr : Word
  /-- `SPSR[b]` (R33). -/
  spsr : PerSpsr Word
  /-- `rtr_active` (R35). -/
  rtrActive : Bool
  /-- `rtr_lr_save` (R35). -/
  rtrLrSave : Word
  /-- `outcome` (R37). -/
  outcome : Mark
  /-- The bytes behind `MEM`, in canonical form (`Memory.wf`; R60, R62). -/
  mem : List Host.Cell
  /-- The parameters of R9, constant (log 1). -/
  params : Params
  /-- The numbered firmware steps that are next at some position, the latest first (log 9). -/
  pending : List Pending
  /-- What the executor presents next, first first (R7; log 7). -/
  requests : List Request
  /-- The lines at the coming boundaries, first first; low beyond the list (R36; log 6). -/
  lines : List Lines
  /-- The answer of the latest READ operation (log 19). -/
  reply : Option Word
  /-- How many free values the run has used (log 10). -/
  freeCount : Nat
deriving DecidableEq, Repr, Inhabited

/-- Why a run stops where the spec says `fault`. `left` is the state the step leaves, marked (R13, R37).
All are raised where R13's table says; each is safe: the model stops and nothing is proved of later states. -/
inductive Fault where
  /-- SAVE_STATUS, RESTORE_STATUS, READ_SPSR, WRITE_SPSR and the return words where there is no saved status
  word (R122, R123, R130, R131). Safe. -/
  | noSpsr (left : State)
  /-- A return or WRITE_CPSR that leaves a mode field naming no mode (R125, R129: after the writes), and an
  operation that needs the mode when the field names none (R27). Safe. -/
  | invalidModeField (left : State)
  /-- A return for a mode that is not the current one (R123, R276). Safe. -/
  | returnModeMismatch (left : State)
  /-- The router entered while a routed call is in progress (R151, R163). Safe. -/
  | routerReentry (left : State)
  /-- The router entered in a mode other than Supervisor (R151). Safe. -/
  | routerNotInSvc (left : State)
  /-- The router's step 5 with no call in progress (R158). Safe. -/
  | resumeWithoutRouter (left : State)
  /-- A call number above 0x2B under the policy `fatal` (R160). Safe. -/
  | swiOutOfRange (left : State)
deriving DecidableEq, Repr

/-- Why a run stops where the spec says `refuse` (with the mark of R37), and the model's own refusals, which are no
outcome of R13 and leave no mark (log 16). Each is safe. -/
inductive Refusal where
  /-- exec, for an instruction whose meaning is not written. Safe. -/
  | notModelled (mnemonic : String)
  /-- EXC_RETURN(RESET) (R277). Safe. -/
  | resetHasNoReturn (left : State)
  /-- The router, for an SWI from the compact state (R151). Safe. -/
  | swiFromCompactState (left : State)
  /-- ENTER_MODE in User mode (R121). Safe. -/
  | enterModeFromUser (left : State)
  /-- step, where the next instruction is the executor's and not the block's: the compact encoding (R104), a
  misaligned instruction address (R28), or a word that is none of R108(2)'s (R4(a), log 20). Safe. -/
  | executorInstruction (pc : Word)
  /-- step, for a presented code that the decoder rejects (R102(d)). Safe. -/
  | undecodable (q : Request)
deriving DecidableEq, Repr

/-- One outcome of a step or of an operation. -/
abbrev Result := Host.Outcome State Fault Refusal

/-- The state right after reset: R41, the state after the Reset entry that is the first event after
power-on (R310). What R41 leaves `any` is 0 (DESIGN CHOICE, log 2); memory lists nothing, so every byte is `any`
(R79; log 4); the OPEN parameters are those of E1 (DESIGN CHOICE, log 1). -/
def State.reset : State where
  gpr := #v[0, 0, 0, 0, 0, 0, 0, 0, 0, 0, 0, 0, 0]
  fiqHi := #v[0, 0, 0, 0, 0]
  r13 := ⟨0, 0, 0, 0, 0, 0⟩
  r14 := ⟨0, 0, 0, 0, 0, 0⟩
  pc := Params.e1.vectorBase
  cpsr := 0x000000D3
  spsr := ⟨0, 0, 0, 0, 0⟩
  rtrActive := false
  rtrLrSave := 0
  outcome := .running
  mem := []
  params := Params.e1
  pending := []
  requests := []
  lines := []
  reply := none
  freeCount := 0

end Sys2Proof.Machine

/-- `HANDLER_BODY[k]` for k = PABT, DABT, IRQ, FIQ (R9, R290): an OPEN state transformer. A free value; what of
its answer the machine takes over is said by `State.handlerBody` (log 11). -/
opaque Sys2Proof.Config.handlerBody : Sys2Proof.TrapKind → Sys2Proof.Machine.State → Sys2Proof.Machine.State
end

