-- ==== Sys2Proof/Machine/Flags.lean ====
section
/-! DEFINITION. The fields of a status word (R30, R31) and every change the spec makes to one. The block
computes no flag (R32); it only moves them. -/

namespace Sys2Proof

/-- `enc(m)` (R31). -/
def Mode.enc : Mode → BitVec 5
  | .usr => 0x10 | .fiq => 0x11 | .irq => 0x12 | .svc => 0x13 | .abt => 0x17 | .und => 0x1B | .sys => 0x1F

/-- The mode a mode field names, none for the other 25 values (R31). -/
def modeOfField (f : BitVec 5) : Option Mode :=
  if f = 0x10 then some .usr
  else if f = 0x11 then some .fiq
  else if f = 0x12 then some .irq
  else if f = 0x13 then some .svc
  else if f = 0x17 then some .abt
  else if f = 0x1B then some .und
  else if f = 0x1F then some .sys
  else none

namespace Machine

namespace Psr

/-- M, bits 4:0. -/
def field (w : Word) : BitVec 5 := w.extractLsb' 0 5

/-- `mode()` of a status word (R21). -/
def mode? (w : Word) : Option Mode := modeOfField (field w)

/-- T, bit 5. -/
def t (w : Word) : Bool := w.getLsbD 5

/-- F, bit 6: 1 disables FIQ. -/
def f (w : Word) : Bool := w.getLsbD 6

/-- I, bit 7: 1 disables IRQ. -/
def i (w : Word) : Bool := w.getLsbD 7

/-- N, Z, C, V, bits 31:28. -/
def nzcv (w : Word) : BitVec 4 := w.extractLsb' 28 4

/-- "clears the mode field of the current status word and ORs in `new_mode`" (R121). -/
def withMode (w : Word) (m : Mode) : Word := (w &&& 0xFFFFFFE0) ||| m.enc.setWidth 32

/-- T cleared. -/
def clearT (w : Word) : Word := w &&& 0xFFFFFFDF

/-- I set. -/
def setI (w : Word) : Word := w ||| 0x00000080

/-- F set. -/
def setF (w : Word) : Word := w ||| 0x00000040

/-- Bits 31:28 from v (R129, flags). -/
def writeFlags (w v : Word) : Word := (w &&& 0x0FFFFFFF) ||| (v &&& 0xF0000000)

/-- Bits 7:0 from v (R129, control). -/
def writeControl (w v : Word) : Word := (w &&& 0xFFFFFF00) ||| (v &&& 0x000000FF)

end Psr

/-- The status word after the entry of trap kind k into mode m (R267): the mode, T cleared, I set, and F
set for RESET and FIQ only. -/
def entryStatus (k : TrapKind) (m : Mode) (w : Word) : Word :=
  let w' := Psr.setI (Psr.clearT (Psr.withMode w m))
  if k = .reset ∨ k = .fiq then Psr.setF w' else w'

/-- The status word WRITE_CPSR leaves (R129): in User mode the control part is ignored. -/
def writtenStatus (m : Mode) (w v : Word) (flags control : Bool) : Word :=
  let w' := if flags then Psr.writeFlags w v else w
  if control ∧ m ≠ .usr then Psr.writeControl w' v else w'

/-- Whether an SWI's condition holds: 1110 is always; the block looks at no other (R92), so any other is a
free function of the condition and the flags (log 12). -/
def conditionHolds (cond : BitVec 4) (w : Word) : Bool :=
  cond == 0xE || Config.condHolds cond (Psr.nzcv w)

end Machine

end Sys2Proof
end

