-- ==== Sys2Proof/Machine/Operands.lean ====
section
/-! DEFINITION. The register view (R27), the banks, the numbered firmware step that is next, and the operands of trap
entry and return. -/

namespace Sys2Proof

/-! ### Banks -/

/-- `bank(m)` (R22): User and System share `usr` (R24). -/
def Mode.bank : Mode → Bank
  | .usr => .usr | .sys => .usr | .fiq => .fiq | .irq => .irq | .svc => .svc | .abt => .abt | .und => .und

/-- The bank of the saved status word of a mode: none in User and System mode (R34). -/
def Mode.spsrBank? : Mode → Option SpsrBank
  | .usr => none | .sys => none
  | .fiq => some .fiq | .irq => some .irq | .svc => some .svc | .abt => some .abt | .und => some .und

/-- The bank of r13 and r14 that goes with a saved status word (R22, R33). -/
def SpsrBank.bank : SpsrBank → Bank
  | .fiq => .fiq | .irq => .irq | .svc => .svc | .abt => .abt | .und => .und

/-- The mode that owns the bank. -/
def SpsrBank.mode : SpsrBank → Mode
  | .fiq => .fiq | .irq => .irq | .svc => .svc | .abt => .abt | .und => .und

/-! ### Trap descriptors (R261) -/

/-- The bank of the entry mode (R261). -/
def TrapKind.entryBank : TrapKind → SpsrBank
  | .reset => .svc | .und => .und | .swi => .svc | .pabt => .abt | .dabt => .abt | .rsvd => .svc
  | .irq => .irq | .fiq => .fiq

/-- `entry_mode(k)` (R261). -/
def TrapKind.entryMode (k : TrapKind) : Mode := k.entryBank.mode

/-- The return adjustment, none for RESET (R262). -/
def TrapKind.adjustment? : TrapKind → Option Adjustment
  | .reset => none
  | .und => some .zero | .swi => some .zero
  | .pabt => some .minus4 | .dabt => some .minus8 | .rsvd => some .minus4
  | .irq => some .minus4 | .fiq => some .minus4

/-- `ISZ` (R28): 4 in the 32-bit encoding, 2 in the compact one. -/
def isz (t : Bool) : Word := if t then 2 else 4

/-- The link value of every kind but RESET, whose link is `any` (R266); t is `CPSR.T` before entry. -/
def linkValue (k : TrapKind) (iaddr : Word) (t : Bool) : Word :=
  match k with
  | .und | .swi => iaddr + isz t
  | .dabt => iaddr + 8
  | .reset | .pabt | .rsvd | .irq | .fiq => iaddr + 4

namespace Machine

/-! ### Banked cells -/

/-- The cell of a bank. -/
def PerBank.get (r : PerBank α) : Bank → α
  | .usr => r.usr | .fiq => r.fiq | .irq => r.irq | .svc => r.svc | .abt => r.abt | .und => r.und

/-- One cell written. -/
def PerBank.set (r : PerBank α) (b : Bank) (v : α) : PerBank α :=
  match b with
  | .usr => { r with usr := v } | .fiq => { r with fiq := v } | .irq => { r with irq := v }
  | .svc => { r with svc := v } | .abt => { r with abt := v } | .und => { r with und := v }

/-- The cell of a bank. -/
def PerSpsr.get (r : PerSpsr α) : SpsrBank → α
  | .fiq => r.fiq | .irq => r.irq | .svc => r.svc | .abt => r.abt | .und => r.und

/-- One cell written. -/
def PerSpsr.set (r : PerSpsr α) (b : SpsrBank) (v : α) : PerSpsr α :=
  match b with
  | .fiq => { r with fiq := v } | .irq => { r with irq := v } | .svc => { r with svc := v }
  | .abt => { r with abt := v } | .und => { r with und := v }

/-! ### The register view -/

/-- `mode()` (R21): none when `CPSR.M` names no mode. -/
def State.mode? (s : State) : Option Mode := Psr.mode? s.cpsr

/-- Whether r8 to r12 are FIQ's private ones (R25, R27). -/
def State.fiqView (s : State) : Bool := s.params.fiqBankR8R12 && s.mode? == some .fiq

/-! ### The numbered firmware step that is next (D47; log 9) -/

/-- The position of the state. -/
def State.position (s : State) : Position := ⟨s.pc, Psr.field s.cpsr, s.r13.svc, s.r14.svc, s.spsr.svc⟩

/-- The numbered step that is next, none where R290 starts what stands at `PC`: that of the entry at exactly the position
of the state. -/
def State.nextStep? (s : State) : Option MicroStep := (s.pending.find? fun e => e.position = s.position).map (·.step)

/-- The entries but one at p: at p what R290 gives starts, and what is pending elsewhere stays. -/
def Pending.dropAt (l : List Pending) (p : Position) : List Pending := l.filter fun e => e.position ≠ p

/-- What is pending elsewhere than at the position of the state. -/
def State.otherPending (s : State) : List Pending := Pending.dropAt s.pending s.position

/-- What the firmware step that ran at s leaves, t, with the numbered step m next. -/
def State.followedBy (t s : State) (m : MicroStep) : State :=
  { t with pending := ⟨t.position, m⟩ :: Pending.dropAt s.otherPending t.position }

/-- What the firmware step that ran at s leaves, t, with `PC <- v` as its last write: what stands at v starts. -/
def State.endedAt (t s : State) (v : Word) : State :=
  { t with pc := v, pending := Pending.dropAt s.otherPending { t.position with pc := v } }

/-- `PC <- v` (R28): no mask. A transfer to another address starts what stands there (R290); a write of the value `PC`
already holds changes nothing (log 9). -/
def State.setPc (s : State) (v : Word) : State :=
  { s with
    pc := v
    pending := if v = s.pc then s.pending else Pending.dropAt s.pending { s.position with pc := v } }

/-! ### Registers by number -/

/-- `x[i]` (R27): none for r13 and r14 when `CPSR.M` names no mode. -/
def State.x (s : State) (i : Fin 16) : Option Word :=
  if h : i.val < 8 then some s.gpr[i.val]
  else if h : i.val < 13 then
    some (if s.fiqView then s.fiqHi[i.val - 8] else s.gpr[i.val])
  else if i.val = 13 then s.mode?.map fun m => s.r13.get (m.bank)
  else if i.val = 14 then s.mode?.map fun m => s.r14.get (m.bank)
  else some s.pc

/-- `x[i] <- v` (R27): the same cell a read selects. -/
def State.setX (s : State) (i : Fin 16) (v : Word) : Option State :=
  if h : i.val < 8 then some { s with gpr := s.gpr.set i.val v }
  else if h : i.val < 13 then
    some (if s.fiqView then { s with fiqHi := s.fiqHi.set (i.val - 8) v }
      else { s with gpr := s.gpr.set i.val v })
  else if i.val = 13 then s.mode?.map fun m => { s with r13 := s.r13.set (m.bank) v }
  else if i.val = 14 then s.mode?.map fun m => { s with r14 := s.r14.set (m.bank) v }
  else some { s with pc := v }

/-- r0 (R26: never banked). -/
def State.r0 (s : State) : Word := s.gpr[0]

/-- `x[i] <- 0` for i = 0 to 12 (R245), through the view. -/
def State.zeroR0toR12 (s : State) : State :=
  if s.fiqView then
    { s with
      gpr := #v[0, 0, 0, 0, 0, 0, 0, 0, s.gpr[8], s.gpr[9], s.gpr[10], s.gpr[11], s.gpr[12]]
      fiqHi := #v[0, 0, 0, 0, 0] }
  else { s with gpr := #v[0, 0, 0, 0, 0, 0, 0, 0, 0, 0, 0, 0, 0] }

/-! ### Addresses -/

/-- `VECTOR_BASE + 4*k` (R67, R267). -/
def vectorAddress (p : Params) (k : TrapKind) : Word := p.vectorBase + 4 * BitVec.ofNat 32 k.code

/-- `H_VEC[k]` (R9). -/
def handlerEntry (p : Params) : TrapKind → Word
  | .reset => p.hVec[0] | .und => p.hVec[1] | .swi => p.hVec[2] | .pabt => p.hVec[3]
  | .dabt => p.hVec[4] | .rsvd => p.hVec[5] | .irq => p.hVec[6] | .fiq => p.hVec[7]

/-- `slot(n) = CALL_TABLE_BASE + 4*n` (R95). -/
def callSlot (p : Params) (n : Byte) : Word := p.callTableBase + 4 * n.setWidth 32

end Machine

end Sys2Proof
end

