-- ==== Sys2Proof/Machine/Ops.lean ====
section
/-! DEFINITION. The operations that several instructions share: how a step stops, memory, mode change, taking a
trap and returning from one, the executor's condition, the handler bodies. -/

namespace Sys2Proof.Machine

/-! ### How a step stops -/

/-- `fault r`, leaving s marked (R13, R37). -/
def State.faultWith (s : State) (r : FaultReason) : Result :=
  let left := { s with outcome := .faulted r }
  match r with
  | .noSpsr => .fault (.noSpsr left)
  | .invalidModeField => .fault (.invalidModeField left)
  | .returnModeMismatch => .fault (.returnModeMismatch left)
  | .routerReentry => .fault (.routerReentry left)
  | .routerNotInSvc => .fault (.routerNotInSvc left)
  | .resumeWithoutRouter => .fault (.resumeWithoutRouter left)
  | .swiOutOfRange => .fault (.swiOutOfRange left)

/-- `refuse r`, leaving s marked (R13, R37). -/
def State.refuseWith (s : State) (r : RefuseReason) : Result :=
  let left := { s with outcome := .refused r }
  match r with
  | .resetHasNoReturn => .refused (.resetHasNoReturn left)
  | .swiFromCompactState => .refused (.swiFromCompactState left)
  | .enterModeFromUser => .refused (.enterModeFromUser left)

/-- One operation after another, inside one step. -/
def andThen (r : Result) (f : State → Result) : Result :=
  match r with
  | .next s => f s
  | .fault e => .fault e
  | .refused e => .refused e

/-! ### Contents of memory (R60 to R63)

u is what an unlisted address reads as. -/

/-- The byte at address a. -/
def Memory.read (u : Nat → Byte) : List Host.Cell → Nat → Byte
  | [], a => u a
  | (b, v) :: rest, a => if a = b then v else Memory.read u rest a

/-- The byte at address a written, keeping the canonical form. -/
def Memory.write (u : Nat → Byte) : List Host.Cell → Nat → Byte → List Host.Cell
  | [], a, v => if v = u a then [] else [(a, v)]
  | (b, w) :: rest, a, v =>
    if a < b then
      if v = u a then (b, w) :: rest else (a, v) :: (b, w) :: rest
    else if a = b then
      if v = u a then rest else (a, v) :: rest
    else (b, w) :: Memory.write u rest a v

/-- Every listed address is at least lo, the addresses rise strictly and stay below 2^32, and no listed byte is
what its address would read as unlisted. -/
def Memory.wfFrom (u : Nat → Byte) (lo : Nat) : List Host.Cell → Bool
  | [] => true
  | (a, v) :: rest =>
    decide (lo ≤ a) && decide (a < 2 ^ 32) && decide (v ≠ u a) && Memory.wfFrom u (a + 1) rest

/-- The canonical form. -/
def Memory.wf (u : Nat → Byte) (m : List Host.Cell) : Bool := Memory.wfFrom u 0 m

/-- A list of cells as canonical memory, a later cell over an earlier one, addresses modulo 2^32 (R62). -/
def Memory.ofCells (u : Nat → Byte) (l : List Host.Cell) : List Host.Cell :=
  l.foldl (fun m c => Memory.write u m (c.1 % 2 ^ 32) c.2) []

/-- The byte at a. -/
def Memory.read1 (u : Nat → Byte) (m : List Host.Cell) (a : Word) : Byte := Memory.read u m a.toNat

/-- The byte at a written. -/
def Memory.write1 (u : Nat → Byte) (m : List Host.Cell) (a : Word) (v : Byte) : List Host.Cell :=
  Memory.write u m a.toNat v

/-- The four bytes from a (R62, R63): addresses modulo 2^32, the byte at a least significant. -/
def Memory.read4 (u : Nat → Byte) (m : List Host.Cell) (a : Word) : Word :=
  wordOfBytes (Memory.read1 u m a) (Memory.read1 u m (a + 1)) (Memory.read1 u m (a + 2)) (Memory.read1 u m (a + 3))

/-- The four bytes from a written (R62, R63). -/
def Memory.write4 (u : Nat → Byte) (m : List Host.Cell) (a v : Word) : List Host.Cell :=
  let m := Memory.write1 u m a (v.extractLsb' 0 8)
  let m := Memory.write1 u m (a + 1) (v.extractLsb' 8 8)
  let m := Memory.write1 u m (a + 2) (v.extractLsb' 16 8)
  Memory.write1 u m (a + 3) (v.extractLsb' 24 8)

/-- n bytes of 0 from address a, one byte at a time, ascending (R243). -/
def Memory.clear (u : Nat → Byte) (m : List Host.Cell) (a : Word) : Nat → List Host.Cell
  | 0 => m
  | n + 1 => Memory.clear u (Memory.write1 u m a 0) (a + 1) n

/-- What an address that memory does not list reads as: the byte the launch states, else `any` (R62, R79; log 4).
The contents of another `MEM` are read by its own answers alone, so the 0 there is read by nothing. -/
def MemSystem.unlisted : MemSystem → Nat → Byte
  | .ordinary (some b), _ => b
  | .ordinary none, a => Config.launchByte a
  | .other, _ => 0

/-- What an unlisted address reads as in this machine. -/
def State.unlisted (s : State) : Nat → Byte := MemSystem.unlisted s.params.memory

/-- The byte at a in ordinary memory. -/
def State.byteAt (s : State) (a : Word) : Byte := Memory.read1 s.unlisted s.mem a

/-- The word at a in ordinary memory. -/
def State.wordAt (s : State) (a : Word) : Word := Memory.read4 s.unlisted s.mem a

/-- Whether memory is in canonical form. -/
def State.memWf (s : State) : Bool := Memory.wf s.unlisted s.mem

/-! ### The two primitives of `MEM` (R62)

Total: "the block has no channel by which `MEM` can report an error to it". An address is used as it is (R61), and in
ordinary memory a misaligned word is the four bytes at its addresses, as R62 words it. -/

/-- Another `MEM` has been accessed: its contents are c in canonical form, and one free value is used (log 5). -/
def State.accessed (s : State) (c : List Host.Cell) : State :=
  { s with mem := Memory.ofCells s.unlisted c, freeCount := s.freeCount + 1 }

/-- `MemRead(a, 1)`. -/
def State.load1 (s : State) (a : Word) : Byte × State :=
  match s.params.memory with
  | .ordinary _ => (s.byteAt a, s)
  | .other =>
    let r := Config.memRead s.freeCount s.mem a 1
    (r.1.setWidth 8, s.accessed r.2)

/-- `MemRead(a, 4)`. -/
def State.load4 (s : State) (a : Word) : Word × State :=
  match s.params.memory with
  | .ordinary _ => (s.wordAt a, s)
  | .other =>
    let r := Config.memRead s.freeCount s.mem a 4
    (r.1, s.accessed r.2)

/-- `MemWrite(a, 1, v)`. -/
def State.store1 (s : State) (a : Word) (v : Byte) : State :=
  match s.params.memory with
  | .ordinary _ => { s with mem := Memory.write1 s.unlisted s.mem a v }
  | .other => s.accessed (Config.memWrite s.freeCount s.mem a 1 (v.setWidth 32))

/-- `MemWrite(a, 4, v)`. -/
def State.store4 (s : State) (a v : Word) : State :=
  match s.params.memory with
  | .ordinary _ => { s with mem := Memory.write4 s.unlisted s.mem a v }
  | .other => s.accessed (Config.memWrite s.freeCount s.mem a 4 v)

/-- `MemWrite(a + i, 1, 0)` for i = 0 to n - 1, ascending (R243). -/
def State.clear (s : State) (a : Word) : Nat → State
  | 0 => s
  | n + 1 => State.clear (s.store1 a 0) (a + 1) n

/-! ### Mode change -/

/-- `ENTER_MODE(m)` (R121). From a mode field that names no mode there is no way out (R121(c)). -/
def State.enterMode (s : State) (m : Mode) : Result :=
  match s.mode? with
  | none => s.faultWith .invalidModeField
  | some .usr => s.refuseWith .enterModeFromUser
  | some _ => .next { s with cpsr := Psr.withMode s.cpsr m }

/-! ### Taking a trap (R267) -/

/-- `TRAP_REQ(k, iaddr)`: one indivisible step (R267). For RESET the link and the saved status are `any` (R268):
free values. A numbered firmware step that the entry interrupts stays pending at its position; RESET drops every one
(log 9). -/
def State.enterTrap (s : State) (k : TrapKind) (iaddr : Word) : State :=
  let b := k.entryBank
  let t : State := { s with
    r14 := s.r14.set b.bank
      (if k = .reset then Config.anyWord s.freeCount else linkValue k iaddr (Psr.t s.cpsr))
    spsr := s.spsr.set b (if k = .reset then Config.anyWord (s.freeCount + 1) else s.cpsr)
    freeCount := if k = .reset then s.freeCount + 2 else s.freeCount
    cpsr := entryStatus k k.entryMode s.cpsr
    pc := vectorAddress s.params k }
  { t with pending := if k = .reset then [] else Pending.dropAt s.pending t.position }

/-- "`CPSR.I = 1` prevents IRQ entry; `CPSR.F = 1` prevents FIQ entry; neither affects synchronous traps or
RESET" (R287). -/
def State.masked (s : State) (k : TrapKind) : Bool :=
  match k with
  | .irq => Psr.i s.cpsr
  | .fiq => Psr.f s.cpsr
  | .reset | .und | .swi | .pabt | .dabt | .rsvd => false

/-- A trap request (R7, R267). A masked IRQ or FIQ request is not taken (R287; DEDUCED, log 15). -/
def State.trapRequest (s : State) (k : TrapKind) (iaddr : Word) : Result :=
  .next (if s.masked k then s else s.enterTrap k iaddr)

/-! ### Interrupt sampling (R285) -/

/-- The interrupt a boundary takes now: FIQ before IRQ, each only with its line high and its mask clear. -/
def State.interruptNow (s : State) : Option TrapKind :=
  match s.lines with
  | [] => none
  | l :: _ =>
    if l.fiq && !Psr.f s.cpsr then some .fiq
    else if l.irq && !Psr.i s.cpsr then some .irq
    else none

/-- The boundary's sample of the lines used up (R36: nothing of it is kept). -/
def State.sampled (s : State) : State := { s with lines := s.lines.tail }

/-- `BOUNDARY(next)` (R285). -/
def State.atBoundary (s : State) (next : Word) : State :=
  match s.interruptNow with
  | some k => s.sampled.enterTrap k next
  | none => s.sampled

/-! ### Returning from a trap (R123, R276) -/

/-- The two writes of R123, one step (R124): the status word from the bank's saved one, `PC` from its link plus
the adjustment. A mode field that names no mode is marked after both writes (R125). -/
def State.returnFrom (s : State) (b : SpsrBank) (adj : Adjustment) : Result :=
  let t := { s with cpsr := s.spsr.get b, pc := s.r14.get b.bank + adj.word }
  if t.mode?.isSome then .next t else t.faultWith .invalidModeField

/-- `RESTORE_STATUS(m, adj)` (R123). -/
def State.restoreStatus (s : State) (m : Mode) (adj : Adjustment) : Result :=
  match m.spsrBank? with
  | none => s.faultWith .noSpsr
  | some b => if s.mode? = some m then s.returnFrom b adj else s.faultWith .returnModeMismatch

/-- `EXC_RETURN(k)` (R276). -/
def State.excReturn (s : State) (k : TrapKind) : Result :=
  match k.adjustment? with
  | none => s.refuseWith .resetHasNoReturn
  | some adj => s.restoreStatus k.entryMode adj

/-- A return word (R99): RESTORE_STATUS of the current mode, since "the hardware's return instruction names no
mode; it uses the SPSR and r14 that are visible" (R123; log 14). -/
def State.returnWord (s : State) (adj : Adjustment) : Result :=
  match s.mode? with
  | none => s.faultWith .invalidModeField
  | some m => s.restoreStatus m adj

/-! ### Calls -/

/-- `raise SWI(iaddr)` when the condition holds (R150), iaddr being `PC`; else the executor's next instruction
(log 13). -/
def State.raiseSwi (s : State) (cond : BitVec 4) : Result :=
  .next (if conditionHolds cond s.cpsr then s.enterTrap .swi s.pc
    else s.setPc (s.pc + isz (Psr.t s.cpsr)))

/-- `pc <- x[14]` (R184). -/
def State.subroutineReturn (s : State) : Result :=
  match s.x 14 with
  | none => s.faultWith .invalidModeField
  | some lr => .next (s.setPc lr)

/-! ### Handler bodies (R290) -/

/-- `HANDLER_BODY[k]` applied: the registers, saved status words and memory are what the free transformer
answers; the status word, `PC` and the block's hidden state stay (R290: it "must end in the mode it started in").
The counter advances, so two runs of a body may differ (log 11). -/
def State.handlerBody (s : State) (k : TrapKind) : State :=
  let t := Config.handlerBody k s
  { s with
    gpr := t.gpr
    fiqHi := t.fiqHi
    r13 := t.r13
    r14 := t.r14
    spsr := t.spsr
    mem := Memory.ofCells s.unlisted t.mem
    freeCount := s.freeCount + 1 }

end Sys2Proof.Machine
end

