-- ==== Sys2Proof/Machine/Router.lean ====
section
/-! DEFINITION. The SWI call router: its checks and steps 1 to 4 as firmware steps, its step 5 as ROUTER_RESUME
(41_swi_router.md). -/

namespace Sys2Proof.Machine

/-- The three checks (R151) and step 1 (R152): SPSR[svc] onto the Supervisor stack. -/
def State.routerStart (s : State) : Result :=
  if s.mode? ≠ some .svc then s.faultWith .routerNotInSvc
  else if s.rtrActive then s.faultWith .routerReentry
  else if Psr.t s.spsr.svc then s.refuseWith .swiFromCompactState
  else
    let t := { s.store4 (s.r13.svc - 4) s.spsr.svc with r13 := s.r13.set .svc (s.r13.svc - 4) }
    .next (t.followedBy s .routerRead)

/-- Step 2 (R153): the call number, the low byte of the word at `R14[svc] - 4`. -/
def State.routerRead (s : State) : Result :=
  let r := s.load4 (s.r14.svc - 4)
  .next (r.2.followedBy s (.routerMode (r.1.extractLsb' 0 8)))

/-- Step 3 (R154). -/
def State.routerMode (s : State) (n : Byte) : Result :=
  andThen (s.enterMode .sys) fun t => .next (t.followedBy s (.routerCall n))

/-- Step 4 (R155, R156): the table word, the policy on a number above 0x2B (R160), the subroutine-style call. -/
def State.routerCall (s : State) (n : Byte) : Result :=
  let r := s.load4 (callSlot s.params n)
  if !callNumberInRange n && s.params.oorPolicy == .fatal then r.2.faultWith .swiOutOfRange
  else
    match r.2.x 14, r.2.setX 14 s.params.routerRet with
    | some lr, some t => .next (State.endedAt { t with rtrLrSave := lr, rtrActive := true } s r.1)
    | _, _ => r.2.faultWith .invalidModeField

/-- The frame popped and the return (R158, R279). -/
def State.routerPop (s : State) : Result :=
  let r := s.load4 s.r13.svc
  State.excReturn { r.2 with spsr := s.spsr.set .svc r.1, r13 := s.r13.set .svc (s.r13.svc + 4) } .swi

/-- Step 5 (R158), in the order of its pseudocode: where a line of it stops, the lines before it have been performed
(DEDUCED, log 16). -/
def execRouterResume (s : State) : Result :=
  if !s.rtrActive then s.faultWith .resumeWithoutRouter
  else
    match s.setX 14 s.rtrLrSave with
    | none => s.faultWith .invalidModeField
    | some t => andThen (State.enterMode { t with rtrActive := false } .svc) State.routerPop

end Sys2Proof.Machine
end

