-- ==== Sys2Proof/Machine/SoftReset.lean ====
section
/-! DEFINITION. The Boot/Reset Sequencer, its steps S1 to S6 (43_softreset.md). Each names the step after it. -/

namespace Sys2Proof.Machine

/-- S1 (R241). -/
def State.sequencerS1 (s : State) : Result :=
  andThen (s.enterMode .irq) fun t => .next <| State.followedBy
    { t with r13 := t.r13.set .irq t.params.spIrq, spsr := t.spsr.set .irq 0 } s .seqS2

/-- S2 (R242). -/
def State.sequencerS2 (s : State) : Result :=
  andThen (s.enterMode .svc) fun t => .next <| State.followedBy
    { t with r13 := t.r13.set .svc t.params.spSvc, spsr := t.spsr.set .svc 0 } s .seqS3

/-- S3 (R243): 0x200 bytes of 0. -/
def State.sequencerS3 (s : State) : Result :=
  .next ((s.clear s.params.wramClearBase 0x200).followedBy s .seqS4)

/-- S4 (R244). -/
def State.sequencerS4 (s : State) : Result :=
  andThen (s.enterMode .sys) fun t => .next <| State.followedBy
    { t with r13 := t.r13.set .usr t.params.spSys } s .seqS5

/-- S5 (R245). -/
def State.sequencerS5 (s : State) : Result :=
  .next (s.zeroR0toR12.followedBy s .seqS6)

/-- The entry address the flag byte selects (R246): 0 selects ROM. -/
def entryAddress (p : Params) (flag : Byte) : Word := if flag = 0 then p.romEntry else p.ramEntry

/-- S6 (R246). "discarding all prior context": what is pending goes with it (log 9). -/
def State.sequencerS6 (s : State) : Result :=
  let r := s.load1 s.params.entryFlagAddr
  .next { r.2 with
    cpsr := Psr.clearT s.cpsr
    rtrActive := false
    pc := entryAddress s.params r.1
    pending := [] }

end Sys2Proof.Machine
end

