-- ==== Sys2Proof/Machine/Calls.lean ====
section
/-! DEFINITION. The call handlers (R186 to R229) and the out-of-range call numbers (R159): one meaning per
call, the 42 placeholders over `State.subroutineReturn` (R183, R184). -/

namespace Sys2Proof.Machine

/-- Call 0x00, SoftReset (R186): the sequencer from its step S1. The steps S2 to S6 are firmware steps of
their own, with a boundary before each (R240). `PC` stays where it is until S6: at `H_CALL[0]` when the dispatch runs
the call, and at the presenter's value when the executor presents the row (DESIGN CHOICE, log 23).
Presented with `CPSR.T = 1`, outside R182's context, S1 runs all the same and S2 to S6 wait until T is 0
(DESIGN CHOICE, log 23). -/
def execCallSoftReset (s : State) : Result :=
  s.sequencerS1

/-- Call 0x01, `RegisterRamReset`: a placeholder (R187, R183). -/
def execCallRegisterRamReset (s : State) : Result :=
  s.subroutineReturn

/-- Call 0x02, `Halt`: a placeholder (R188, R183). -/
def execCallHalt (s : State) : Result :=
  s.subroutineReturn

/-- Call 0x03, `Stop`: a placeholder (R189, R183). -/
def execCallStop (s : State) : Result :=
  s.subroutineReturn

/-- Call 0x04, `IntrWait`: a placeholder (R190, R183). -/
def execCallIntrWait (s : State) : Result :=
  s.subroutineReturn

/-- Call 0x05, `VBlankIntrWait`: a placeholder (R191, R183). -/
def execCallVBlankIntrWait (s : State) : Result :=
  s.subroutineReturn

/-- Call 0x06, `Div`: a placeholder (R192, R183). -/
def execCallDiv (s : State) : Result :=
  s.subroutineReturn

/-- Call 0x07, `DivArm`: a placeholder (R193, R183). -/
def execCallDivArm (s : State) : Result :=
  s.subroutineReturn

/-- Call 0x08, `Sqrt`: a placeholder (R194, R183). -/
def execCallSqrt (s : State) : Result :=
  s.subroutineReturn

/-- Call 0x09, `ArcTan`: a placeholder (R195, R183). -/
def execCallArcTan (s : State) : Result :=
  s.subroutineReturn

/-- Call 0x0A, `ArcTan2`: a placeholder (R196, R183). -/
def execCallArcTan2 (s : State) : Result :=
  s.subroutineReturn

/-- Call 0x0B, `CpuSet`: a placeholder (R197, R183). -/
def execCallCpuSet (s : State) : Result :=
  s.subroutineReturn

/-- Call 0x0C, `CpuFastSet`: a placeholder (R198, R183). -/
def execCallCpuFastSet (s : State) : Result :=
  s.subroutineReturn

/-- Call 0x0D, `GetBiosChecksum`: a placeholder (R199, R183). -/
def execCallGetBiosChecksum (s : State) : Result :=
  s.subroutineReturn

/-- Call 0x0E, `BgAffineSet`: a placeholder (R200, R183). -/
def execCallBgAffineSet (s : State) : Result :=
  s.subroutineReturn

/-- Call 0x0F, `ObjAffineSet`: a placeholder (R201, R183). -/
def execCallObjAffineSet (s : State) : Result :=
  s.subroutineReturn

/-- Call 0x10, `BitUnPack`: a placeholder (R202, R183). -/
def execCallBitUnPack (s : State) : Result :=
  s.subroutineReturn

/-- Call 0x11, `LZ77UnCompWram`: a placeholder (R203, R183). -/
def execCallLZ77UnCompWram (s : State) : Result :=
  s.subroutineReturn

/-- Call 0x12, `LZ77UnCompVram`: a placeholder (R204, R183). -/
def execCallLZ77UnCompVram (s : State) : Result :=
  s.subroutineReturn

/-- Call 0x13, `HuffUnComp`: a placeholder (R205, R183). -/
def execCallHuffUnComp (s : State) : Result :=
  s.subroutineReturn

/-- Call 0x14, `RLUnCompWram`: a placeholder (R206, R183). -/
def execCallRLUnCompWram (s : State) : Result :=
  s.subroutineReturn

/-- Call 0x15, `RLUnCompVram`: a placeholder (R207, R183). -/
def execCallRLUnCompVram (s : State) : Result :=
  s.subroutineReturn

/-- Call 0x16, `Diff8bitUnFilterWram`: a placeholder (R208, R183). -/
def execCallDiff8bitUnFilterWram (s : State) : Result :=
  s.subroutineReturn

/-- Call 0x17, `Diff8bitUnFilterVram`: a placeholder (R209, R183). -/
def execCallDiff8bitUnFilterVram (s : State) : Result :=
  s.subroutineReturn

/-- Call 0x18, `Diff16bitUnFilter`: a placeholder (R210, R183). -/
def execCallDiff16bitUnFilter (s : State) : Result :=
  s.subroutineReturn

/-- Call 0x19, `SoundBias`: a placeholder (R211, R183). -/
def execCallSoundBias (s : State) : Result :=
  s.subroutineReturn

/-- Call 0x1A, `SoundDriverInit`: a placeholder (R212, R183). -/
def execCallSoundDriverInit (s : State) : Result :=
  s.subroutineReturn

/-- Call 0x1B, `SoundDriverMode`: a placeholder (R213, R183). -/
def execCallSoundDriverMode (s : State) : Result :=
  s.subroutineReturn

/-- Call 0x1C, `SoundDriverMain`: a placeholder (R214, R183). -/
def execCallSoundDriverMain (s : State) : Result :=
  s.subroutineReturn

/-- Call 0x1D, `SoundDriverVSync`: a placeholder (R215, R183). -/
def execCallSoundDriverVSync (s : State) : Result :=
  s.subroutineReturn

/-- Call 0x1E, `SoundChannelClear`: a placeholder (R216, R183). -/
def execCallSoundChannelClear (s : State) : Result :=
  s.subroutineReturn

/-- Call 0x1F, `MidiKey2Freq`: a placeholder (R217, R183). -/
def execCallMidiKey2Freq (s : State) : Result :=
  s.subroutineReturn

/-- Call 0x20, `MusicPlayerOpen`: a placeholder (R218, R183). -/
def execCallMusicPlayerOpen (s : State) : Result :=
  s.subroutineReturn

/-- Call 0x21, `MusicPlayerStart`: a placeholder (R219, R183). -/
def execCallMusicPlayerStart (s : State) : Result :=
  s.subroutineReturn

/-- Call 0x22, `MusicPlayerStop`: a placeholder (R220, R183). -/
def execCallMusicPlayerStop (s : State) : Result :=
  s.subroutineReturn

/-- Call 0x23, `MusicPlayerContinue`: a placeholder (R221, R183). -/
def execCallMusicPlayerContinue (s : State) : Result :=
  s.subroutineReturn

/-- Call 0x24, `MusicPlayerFadeOut`: a placeholder (R222, R183). -/
def execCallMusicPlayerFadeOut (s : State) : Result :=
  s.subroutineReturn

/-- Call 0x25, `MultiBoot`: a placeholder (R223, R183). -/
def execCallMultiBoot (s : State) : Result :=
  s.subroutineReturn

/-- Call 0x26, `HardReset`: a placeholder (R224, R183). -/
def execCallHardReset (s : State) : Result :=
  s.subroutineReturn

/-- Call 0x27, `CustomHalt`: a placeholder (R225, R183). -/
def execCallCustomHalt (s : State) : Result :=
  s.subroutineReturn

/-- Call 0x28, `SoundDriverVSyncOff`: a placeholder (R226, R183). -/
def execCallSoundDriverVSyncOff (s : State) : Result :=
  s.subroutineReturn

/-- Call 0x29, `SoundDriverVSyncOn`: a placeholder (R227, R183). -/
def execCallSoundDriverVSyncOn (s : State) : Result :=
  s.subroutineReturn

/-- Call 0x2A, `SoundGetJumpList`: a placeholder (R228, R183). -/
def execCallSoundGetJumpList (s : State) : Result :=
  s.subroutineReturn

/-- Call 0x2B, Debug (R229): r0 to the four bytes at `DIAG_ADDR`, then the subroutine return. -/
def execCallDebug (s : State) : Result :=
  (s.store4 s.params.diagAddr s.r0).subroutineReturn

/-- A call number above 0x2B (R159): no handler stands behind it; the router indexes the table by the same
formula and calls what it reads. -/
def execCallOutOfRange (n : Byte) (s : State) : Result :=
  s.routerCall n

end Sys2Proof.Machine
end

