-- ==== Sys2Proof/Machine/StatusManager.lean ====
section
/-! DEFINITION. The Status Word Manager and the register and status access operations (40_status_word_manager.md). -/

namespace Sys2Proof.Machine

/-- R121. -/
def execEnterMode (m : Mode) (s : State) : Result := s.enterMode m

/-- R122: all 32 bits of `CPSR` to the saved status word of mode m. -/
def execSaveStatus (m : Mode) (s : State) : Result :=
  match m.spsrBank? with
  | none => s.faultWith .noSpsr
  | some b => .next { s with spsr := s.spsr.set b s.cpsr }

/-- R123 to R125. -/
def execRestoreStatus (m : Mode) (adj : Adjustment) (s : State) : Result := s.restoreStatus m adj

/-- R126: the value goes to the reply cell (log 19); nothing else is written. -/
def execReadReg (r : Fin 16) (s : State) : Result :=
  match s.x r with
  | none => s.faultWith .invalidModeField
  | some v => .next { s with reply := some v }

/-- R127. -/
def execWriteReg (r : Fin 16) (v : Word) (s : State) : Result :=
  match s.setX r v with
  | none => s.faultWith .invalidModeField
  | some t => .next t

/-- R128. -/
def execReadCpsr (s : State) : Result := .next { s with reply := some s.cpsr }

/-- R129: the writes are performed, then a mode field that names no mode is marked. A current mode field that
names no mode is marked at once (log 17). -/
def execWriteCpsr (v : Word) (flags control : Bool) (s : State) : Result :=
  match s.mode? with
  | none => s.faultWith .invalidModeField
  | some m =>
    let t := { s with cpsr := writtenStatus m s.cpsr v flags control }
    if t.mode?.isSome then .next t else t.faultWith .invalidModeField

/-- The bank of the saved status word of the current mode, if the operation may go on with it (R130, R131). -/
def withSpsr (s : State) (f : SpsrBank → Result) : Result :=
  match s.mode? with
  | none => s.faultWith .invalidModeField
  | some m =>
    match m.spsrBank? with
    | none => s.faultWith .noSpsr
    | some b => f b

/-- R130. -/
def execReadSpsr (s : State) : Result :=
  withSpsr s fun b => .next { s with reply := some (s.spsr.get b) }

/-- R131. -/
def execWriteSpsr (v : Word) (s : State) : Result :=
  withSpsr s fun b => .next { s with spsr := s.spsr.set b v }

end Sys2Proof.Machine
end

