-- ==== Sys2Proof/Machine/Swi.lean ====
section
/-! DEFINITION. The software-interrupt instruction: one meaning per call number, over `State.raiseSwi`
(R150). The immediate's bits 23:8 are ignored (R93); the call number itself is read again by the router
(R153), so the instruction's own effect is the trap entry alone. -/

namespace Sys2Proof.Machine

/-- `swi 0x00` (R150; the call is R186). -/
def execSwiSoftReset (cond : BitVec 4) (_immHi : BitVec 16) (s : State) : Result :=
  s.raiseSwi cond

/-- `swi 0x01` (R150; the call is R187). -/
def execSwiRegisterRamReset (cond : BitVec 4) (_immHi : BitVec 16) (s : State) : Result :=
  s.raiseSwi cond

/-- `swi 0x02` (R150; the call is R188). -/
def execSwiHalt (cond : BitVec 4) (_immHi : BitVec 16) (s : State) : Result :=
  s.raiseSwi cond

/-- `swi 0x03` (R150; the call is R189). -/
def execSwiStop (cond : BitVec 4) (_immHi : BitVec 16) (s : State) : Result :=
  s.raiseSwi cond

/-- `swi 0x04` (R150; the call is R190). -/
def execSwiIntrWait (cond : BitVec 4) (_immHi : BitVec 16) (s : State) : Result :=
  s.raiseSwi cond

/-- `swi 0x05` (R150; the call is R191). -/
def execSwiVBlankIntrWait (cond : BitVec 4) (_immHi : BitVec 16) (s : State) : Result :=
  s.raiseSwi cond

/-- `swi 0x06` (R150; the call is R192). -/
def execSwiDiv (cond : BitVec 4) (_immHi : BitVec 16) (s : State) : Result :=
  s.raiseSwi cond

/-- `swi 0x07` (R150; the call is R193). -/
def execSwiDivArm (cond : BitVec 4) (_immHi : BitVec 16) (s : State) : Result :=
  s.raiseSwi cond

/-- `swi 0x08` (R150; the call is R194). -/
def execSwiSqrt (cond : BitVec 4) (_immHi : BitVec 16) (s : State) : Result :=
  s.raiseSwi cond

/-- `swi 0x09` (R150; the call is R195). -/
def execSwiArcTan (cond : BitVec 4) (_immHi : BitVec 16) (s : State) : Result :=
  s.raiseSwi cond

/-- `swi 0x0A` (R150; the call is R196). -/
def execSwiArcTan2 (cond : BitVec 4) (_immHi : BitVec 16) (s : State) : Result :=
  s.raiseSwi cond

/-- `swi 0x0B` (R150; the call is R197). -/
def execSwiCpuSet (cond : BitVec 4) (_immHi : BitVec 16) (s : State) : Result :=
  s.raiseSwi cond

/-- `swi 0x0C` (R150; the call is R198). -/
def execSwiCpuFastSet (cond : BitVec 4) (_immHi : BitVec 16) (s : State) : Result :=
  s.raiseSwi cond

/-- `swi 0x0D` (R150; the call is R199). -/
def execSwiGetBiosChecksum (cond : BitVec 4) (_immHi : BitVec 16) (s : State) : Result :=
  s.raiseSwi cond

/-- `swi 0x0E` (R150; the call is R200). -/
def execSwiBgAffineSet (cond : BitVec 4) (_immHi : BitVec 16) (s : State) : Result :=
  s.raiseSwi cond

/-- `swi 0x0F` (R150; the call is R201). -/
def execSwiObjAffineSet (cond : BitVec 4) (_immHi : BitVec 16) (s : State) : Result :=
  s.raiseSwi cond

/-- `swi 0x10` (R150; the call is R202). -/
def execSwiBitUnPack (cond : BitVec 4) (_immHi : BitVec 16) (s : State) : Result :=
  s.raiseSwi cond

/-- `swi 0x11` (R150; the call is R203). -/
def execSwiLZ77UnCompWram (cond : BitVec 4) (_immHi : BitVec 16) (s : State) : Result :=
  s.raiseSwi cond

/-- `swi 0x12` (R150; the call is R204). -/
def execSwiLZ77UnCompVram (cond : BitVec 4) (_immHi : BitVec 16) (s : State) : Result :=
  s.raiseSwi cond

/-- `swi 0x13` (R150; the call is R205). -/
def execSwiHuffUnComp (cond : BitVec 4) (_immHi : BitVec 16) (s : State) : Result :=
  s.raiseSwi cond

/-- `swi 0x14` (R150; the call is R206). -/
def execSwiRLUnCompWram (cond : BitVec 4) (_immHi : BitVec 16) (s : State) : Result :=
  s.raiseSwi cond

/-- `swi 0x15` (R150; the call is R207). -/
def execSwiRLUnCompVram (cond : BitVec 4) (_immHi : BitVec 16) (s : State) : Result :=
  s.raiseSwi cond

/-- `swi 0x16` (R150; the call is R208). -/
def execSwiDiff8bitUnFilterWram (cond : BitVec 4) (_immHi : BitVec 16) (s : State) : Result :=
  s.raiseSwi cond

/-- `swi 0x17` (R150; the call is R209). -/
def execSwiDiff8bitUnFilterVram (cond : BitVec 4) (_immHi : BitVec 16) (s : State) : Result :=
  s.raiseSwi cond

/-- `swi 0x18` (R150; the call is R210). -/
def execSwiDiff16bitUnFilter (cond : BitVec 4) (_immHi : BitVec 16) (s : State) : Result :=
  s.raiseSwi cond

/-- `swi 0x19` (R150; the call is R211). -/
def execSwiSoundBias (cond : BitVec 4) (_immHi : BitVec 16) (s : State) : Result :=
  s.raiseSwi cond

/-- `swi 0x1A` (R150; the call is R212). -/
def execSwiSoundDriverInit (cond : BitVec 4) (_immHi : BitVec 16) (s : State) : Result :=
  s.raiseSwi cond

/-- `swi 0x1B` (R150; the call is R213). -/
def execSwiSoundDriverMode (cond : BitVec 4) (_immHi : BitVec 16) (s : State) : Result :=
  s.raiseSwi cond

/-- `swi 0x1C` (R150; the call is R214). -/
def execSwiSoundDriverMain (cond : BitVec 4) (_immHi : BitVec 16) (s : State) : Result :=
  s.raiseSwi cond

/-- `swi 0x1D` (R150; the call is R215). -/
def execSwiSoundDriverVSync (cond : BitVec 4) (_immHi : BitVec 16) (s : State) : Result :=
  s.raiseSwi cond

/-- `swi 0x1E` (R150; the call is R216). -/
def execSwiSoundChannelClear (cond : BitVec 4) (_immHi : BitVec 16) (s : State) : Result :=
  s.raiseSwi cond

/-- `swi 0x1F` (R150; the call is R217). -/
def execSwiMidiKey2Freq (cond : BitVec 4) (_immHi : BitVec 16) (s : State) : Result :=
  s.raiseSwi cond

/-- `swi 0x20` (R150; the call is R218). -/
def execSwiMusicPlayerOpen (cond : BitVec 4) (_immHi : BitVec 16) (s : State) : Result :=
  s.raiseSwi cond

/-- `swi 0x21` (R150; the call is R219). -/
def execSwiMusicPlayerStart (cond : BitVec 4) (_immHi : BitVec 16) (s : State) : Result :=
  s.raiseSwi cond

/-- `swi 0x22` (R150; the call is R220). -/
def execSwiMusicPlayerStop (cond : BitVec 4) (_immHi : BitVec 16) (s : State) : Result :=
  s.raiseSwi cond

/-- `swi 0x23` (R150; the call is R221). -/
def execSwiMusicPlayerContinue (cond : BitVec 4) (_immHi : BitVec 16) (s : State) : Result :=
  s.raiseSwi cond

/-- `swi 0x24` (R150; the call is R222). -/
def execSwiMusicPlayerFadeOut (cond : BitVec 4) (_immHi : BitVec 16) (s : State) : Result :=
  s.raiseSwi cond

/-- `swi 0x25` (R150; the call is R223). -/
def execSwiMultiBoot (cond : BitVec 4) (_immHi : BitVec 16) (s : State) : Result :=
  s.raiseSwi cond

/-- `swi 0x26` (R150; the call is R224). -/
def execSwiHardReset (cond : BitVec 4) (_immHi : BitVec 16) (s : State) : Result :=
  s.raiseSwi cond

/-- `swi 0x27` (R150; the call is R225). -/
def execSwiCustomHalt (cond : BitVec 4) (_immHi : BitVec 16) (s : State) : Result :=
  s.raiseSwi cond

/-- `swi 0x28` (R150; the call is R226). -/
def execSwiSoundDriverVSyncOff (cond : BitVec 4) (_immHi : BitVec 16) (s : State) : Result :=
  s.raiseSwi cond

/-- `swi 0x29` (R150; the call is R227). -/
def execSwiSoundDriverVSyncOn (cond : BitVec 4) (_immHi : BitVec 16) (s : State) : Result :=
  s.raiseSwi cond

/-- `swi 0x2A` (R150; the call is R228). -/
def execSwiSoundGetJumpList (cond : BitVec 4) (_immHi : BitVec 16) (s : State) : Result :=
  s.raiseSwi cond

/-- `swi 0x2B` (R150; the call is R229). -/
def execSwiDebug (cond : BitVec 4) (_immHi : BitVec 16) (s : State) : Result :=
  s.raiseSwi cond

/-- `swi` with a call number above 0x2B: the trap is raised like any other (R150, R159). -/
def execSwi (cond : BitVec 4) (_imm24 : BitVec 24) (s : State) : Result :=
  s.raiseSwi cond

end Sys2Proof.Machine
end

