-- ==== Sys2Proof/Machine/Traps.lean ====
section
/-! DEFINITION. Trap requests, returns, the boundary and the vector-slot branch (60_exceptions.md; R97 to R99). -/

namespace Sys2Proof.Machine

/-- R268. -/
def execTrapReqReset (iaddr : Word) (s : State) : Result := s.trapRequest .reset iaddr

/-- R269. -/
def execTrapReqUnd (iaddr : Word) (s : State) : Result := s.trapRequest .und iaddr

/-- R270. -/
def execTrapReqSwi (iaddr : Word) (s : State) : Result := s.trapRequest .swi iaddr

/-- R271. -/
def execTrapReqPabt (iaddr : Word) (s : State) : Result := s.trapRequest .pabt iaddr

/-- R272. -/
def execTrapReqDabt (iaddr : Word) (s : State) : Result := s.trapRequest .dabt iaddr

/-- R273. -/
def execTrapReqRsvd (iaddr : Word) (s : State) : Result := s.trapRequest .rsvd iaddr

/-- R274, masked as R287 says (log 15). -/
def execTrapReqIrq (iaddr : Word) (s : State) : Result := s.trapRequest .irq iaddr

/-- R275, masked as R287 says (log 15). -/
def execTrapReqFiq (iaddr : Word) (s : State) : Result := s.trapRequest .fiq iaddr

/-- R267, for any kind. -/
def execTrapReq (k : TrapKind) (iaddr : Word) (s : State) : Result := s.trapRequest k iaddr

/-- R277: always refused. -/
def execExcReturnReset (s : State) : Result := s.excReturn .reset

/-- R278. -/
def execExcReturnUnd (s : State) : Result := s.excReturn .und

/-- R279. -/
def execExcReturnSwi (s : State) : Result := s.excReturn .swi

/-- R280. -/
def execExcReturnPabt (s : State) : Result := s.excReturn .pabt

/-- R281. -/
def execExcReturnDabt (s : State) : Result := s.excReturn .dabt

/-- R282. -/
def execExcReturnRsvd (s : State) : Result := s.excReturn .rsvd

/-- R283. -/
def execExcReturnIrq (s : State) : Result := s.excReturn .irq

/-- R284. -/
def execExcReturnFiq (s : State) : Result := s.excReturn .fiq

/-- `movs pc, lr`: adjustment 0 (R99). -/
def execMovsPcLr (s : State) : Result := s.returnWord .zero

/-- `subs pc, lr, #4`: adjustment -4 (R99). -/
def execSubsPcLr4 (s : State) : Result := s.returnWord .minus4

/-- `subs pc, lr, #8`: adjustment -8 (R99). -/
def execSubsPcLr8 (s : State) : Result := s.returnWord .minus8

/-- The target of the branch word at address a: `a + 8 + (sext_24(off24) << 2)` (R98). -/
def branchTarget (a : Word) (off24 : BitVec 24) : Word := a + 8 + (off24.signExtend 32 <<< 2)

/-- `pc <- target` and nothing else (R98). -/
def execB (off24 : BitVec 24) (s : State) : Result := .next (s.setPc (branchTarget s.pc off24))

/-- R285. -/
def execBoundary (next : Word) (s : State) : Result := .next (s.atBoundary next)

end Sys2Proof.Machine
end

