-- ==== Sys2Proof/Machine/Dispatch.lean ====
section
/-! DEFINITION. One arm per instruction, each one direct call of its meaning. -/

namespace Sys2Proof.Machine

def exec (i : Instr) (s : State) : Host.Outcome State Fault Refusal :=
  match i with
  | .trapReqReset iaddr => Sys2Proof.Machine.execTrapReqReset iaddr s
  | .trapReqUnd iaddr => Sys2Proof.Machine.execTrapReqUnd iaddr s
  | .trapReqSwi iaddr => Sys2Proof.Machine.execTrapReqSwi iaddr s
  | .trapReqPabt iaddr => Sys2Proof.Machine.execTrapReqPabt iaddr s
  | .trapReqDabt iaddr => Sys2Proof.Machine.execTrapReqDabt iaddr s
  | .trapReqRsvd iaddr => Sys2Proof.Machine.execTrapReqRsvd iaddr s
  | .trapReqIrq iaddr => Sys2Proof.Machine.execTrapReqIrq iaddr s
  | .trapReqFiq iaddr => Sys2Proof.Machine.execTrapReqFiq iaddr s
  | .excReturnReset => Sys2Proof.Machine.execExcReturnReset s
  | .excReturnUnd => Sys2Proof.Machine.execExcReturnUnd s
  | .excReturnSwi => Sys2Proof.Machine.execExcReturnSwi s
  | .excReturnPabt => Sys2Proof.Machine.execExcReturnPabt s
  | .excReturnDabt => Sys2Proof.Machine.execExcReturnDabt s
  | .excReturnRsvd => Sys2Proof.Machine.execExcReturnRsvd s
  | .excReturnIrq => Sys2Proof.Machine.execExcReturnIrq s
  | .excReturnFiq => Sys2Proof.Machine.execExcReturnFiq s
  | .movsPcLr => Sys2Proof.Machine.execMovsPcLr s
  | .subsPcLr4 => Sys2Proof.Machine.execSubsPcLr4 s
  | .subsPcLr8 => Sys2Proof.Machine.execSubsPcLr8 s
  | .b off24 => Sys2Proof.Machine.execB off24 s
  | .swiSoftReset cond immHi => Sys2Proof.Machine.execSwiSoftReset cond immHi s
  | .swiRegisterRamReset cond immHi => Sys2Proof.Machine.execSwiRegisterRamReset cond immHi s
  | .swiHalt cond immHi => Sys2Proof.Machine.execSwiHalt cond immHi s
  | .swiStop cond immHi => Sys2Proof.Machine.execSwiStop cond immHi s
  | .swiIntrWait cond immHi => Sys2Proof.Machine.execSwiIntrWait cond immHi s
  | .swiVBlankIntrWait cond immHi => Sys2Proof.Machine.execSwiVBlankIntrWait cond immHi s
  | .swiDiv cond immHi => Sys2Proof.Machine.execSwiDiv cond immHi s
  | .swiDivArm cond immHi => Sys2Proof.Machine.execSwiDivArm cond immHi s
  | .swiSqrt cond immHi => Sys2Proof.Machine.execSwiSqrt cond immHi s
  | .swiArcTan cond immHi => Sys2Proof.Machine.execSwiArcTan cond immHi s
  | .swiArcTan2 cond immHi => Sys2Proof.Machine.execSwiArcTan2 cond immHi s
  | .swiCpuSet cond immHi => Sys2Proof.Machine.execSwiCpuSet cond immHi s
  | .swiCpuFastSet cond immHi => Sys2Proof.Machine.execSwiCpuFastSet cond immHi s
  | .swiGetBiosChecksum cond immHi => Sys2Proof.Machine.execSwiGetBiosChecksum cond immHi s
  | .swiBgAffineSet cond immHi => Sys2Proof.Machine.execSwiBgAffineSet cond immHi s
  | .swiObjAffineSet cond immHi => Sys2Proof.Machine.execSwiObjAffineSet cond immHi s
  | .swiBitUnPack cond immHi => Sys2Proof.Machine.execSwiBitUnPack cond immHi s
  | .swiLZ77UnCompWram cond immHi => Sys2Proof.Machine.execSwiLZ77UnCompWram cond immHi s
  | .swiLZ77UnCompVram cond immHi => Sys2Proof.Machine.execSwiLZ77UnCompVram cond immHi s
  | .swiHuffUnComp cond immHi => Sys2Proof.Machine.execSwiHuffUnComp cond immHi s
  | .swiRLUnCompWram cond immHi => Sys2Proof.Machine.execSwiRLUnCompWram cond immHi s
  | .swiRLUnCompVram cond immHi => Sys2Proof.Machine.execSwiRLUnCompVram cond immHi s
  | .swiDiff8bitUnFilterWram cond immHi => Sys2Proof.Machine.execSwiDiff8bitUnFilterWram cond immHi s
  | .swiDiff8bitUnFilterVram cond immHi => Sys2Proof.Machine.execSwiDiff8bitUnFilterVram cond immHi s
  | .swiDiff16bitUnFilter cond immHi => Sys2Proof.Machine.execSwiDiff16bitUnFilter cond immHi s
  | .swiSoundBias cond immHi => Sys2Proof.Machine.execSwiSoundBias cond immHi s
  | .swiSoundDriverInit cond immHi => Sys2Proof.Machine.execSwiSoundDriverInit cond immHi s
  | .swiSoundDriverMode cond immHi => Sys2Proof.Machine.execSwiSoundDriverMode cond immHi s
  | .swiSoundDriverMain cond immHi => Sys2Proof.Machine.execSwiSoundDriverMain cond immHi s
  | .swiSoundDriverVSync cond immHi => Sys2Proof.Machine.execSwiSoundDriverVSync cond immHi s
  | .swiSoundChannelClear cond immHi => Sys2Proof.Machine.execSwiSoundChannelClear cond immHi s
  | .swiMidiKey2Freq cond immHi => Sys2Proof.Machine.execSwiMidiKey2Freq cond immHi s
  | .swiMusicPlayerOpen cond immHi => Sys2Proof.Machine.execSwiMusicPlayerOpen cond immHi s
  | .swiMusicPlayerStart cond immHi => Sys2Proof.Machine.execSwiMusicPlayerStart cond immHi s
  | .swiMusicPlayerStop cond immHi => Sys2Proof.Machine.execSwiMusicPlayerStop cond immHi s
  | .swiMusicPlayerContinue cond immHi => Sys2Proof.Machine.execSwiMusicPlayerContinue cond immHi s
  | .swiMusicPlayerFadeOut cond immHi => Sys2Proof.Machine.execSwiMusicPlayerFadeOut cond immHi s
  | .swiMultiBoot cond immHi => Sys2Proof.Machine.execSwiMultiBoot cond immHi s
  | .swiHardReset cond immHi => Sys2Proof.Machine.execSwiHardReset cond immHi s
  | .swiCustomHalt cond immHi => Sys2Proof.Machine.execSwiCustomHalt cond immHi s
  | .swiSoundDriverVSyncOff cond immHi => Sys2Proof.Machine.execSwiSoundDriverVSyncOff cond immHi s
  | .swiSoundDriverVSyncOn cond immHi => Sys2Proof.Machine.execSwiSoundDriverVSyncOn cond immHi s
  | .swiSoundGetJumpList cond immHi => Sys2Proof.Machine.execSwiSoundGetJumpList cond immHi s
  | .swiDebug cond immHi => Sys2Proof.Machine.execSwiDebug cond immHi s
  | .swi cond imm24 => Sys2Proof.Machine.execSwi cond imm24 s
  | .callSoftReset => Sys2Proof.Machine.execCallSoftReset s
  | .callRegisterRamReset => Sys2Proof.Machine.execCallRegisterRamReset s
  | .callHalt => Sys2Proof.Machine.execCallHalt s
  | .callStop => Sys2Proof.Machine.execCallStop s
  | .callIntrWait => Sys2Proof.Machine.execCallIntrWait s
  | .callVBlankIntrWait => Sys2Proof.Machine.execCallVBlankIntrWait s
  | .callDiv => Sys2Proof.Machine.execCallDiv s
  | .callDivArm => Sys2Proof.Machine.execCallDivArm s
  | .callSqrt => Sys2Proof.Machine.execCallSqrt s
  | .callArcTan => Sys2Proof.Machine.execCallArcTan s
  | .callArcTan2 => Sys2Proof.Machine.execCallArcTan2 s
  | .callCpuSet => Sys2Proof.Machine.execCallCpuSet s
  | .callCpuFastSet => Sys2Proof.Machine.execCallCpuFastSet s
  | .callGetBiosChecksum => Sys2Proof.Machine.execCallGetBiosChecksum s
  | .callBgAffineSet => Sys2Proof.Machine.execCallBgAffineSet s
  | .callObjAffineSet => Sys2Proof.Machine.execCallObjAffineSet s
  | .callBitUnPack => Sys2Proof.Machine.execCallBitUnPack s
  | .callLZ77UnCompWram => Sys2Proof.Machine.execCallLZ77UnCompWram s
  | .callLZ77UnCompVram => Sys2Proof.Machine.execCallLZ77UnCompVram s
  | .callHuffUnComp => Sys2Proof.Machine.execCallHuffUnComp s
  | .callRLUnCompWram => Sys2Proof.Machine.execCallRLUnCompWram s
  | .callRLUnCompVram => Sys2Proof.Machine.execCallRLUnCompVram s
  | .callDiff8bitUnFilterWram => Sys2Proof.Machine.execCallDiff8bitUnFilterWram s
  | .callDiff8bitUnFilterVram => Sys2Proof.Machine.execCallDiff8bitUnFilterVram s
  | .callDiff16bitUnFilter => Sys2Proof.Machine.execCallDiff16bitUnFilter s
  | .callSoundBias => Sys2Proof.Machine.execCallSoundBias s
  | .callSoundDriverInit => Sys2Proof.Machine.execCallSoundDriverInit s
  | .callSoundDriverMode => Sys2Proof.Machine.execCallSoundDriverMode s
  | .callSoundDriverMain => Sys2Proof.Machine.execCallSoundDriverMain s
  | .callSoundDriverVSync => Sys2Proof.Machine.execCallSoundDriverVSync s
  | .callSoundChannelClear => Sys2Proof.Machine.execCallSoundChannelClear s
  | .callMidiKey2Freq => Sys2Proof.Machine.execCallMidiKey2Freq s
  | .callMusicPlayerOpen => Sys2Proof.Machine.execCallMusicPlayerOpen s
  | .callMusicPlayerStart => Sys2Proof.Machine.execCallMusicPlayerStart s
  | .callMusicPlayerStop => Sys2Proof.Machine.execCallMusicPlayerStop s
  | .callMusicPlayerContinue => Sys2Proof.Machine.execCallMusicPlayerContinue s
  | .callMusicPlayerFadeOut => Sys2Proof.Machine.execCallMusicPlayerFadeOut s
  | .callMultiBoot => Sys2Proof.Machine.execCallMultiBoot s
  | .callHardReset => Sys2Proof.Machine.execCallHardReset s
  | .callCustomHalt => Sys2Proof.Machine.execCallCustomHalt s
  | .callSoundDriverVSyncOff => Sys2Proof.Machine.execCallSoundDriverVSyncOff s
  | .callSoundDriverVSyncOn => Sys2Proof.Machine.execCallSoundDriverVSyncOn s
  | .callSoundGetJumpList => Sys2Proof.Machine.execCallSoundGetJumpList s
  | .callDebug => Sys2Proof.Machine.execCallDebug s
  | .callOutOfRange n => Sys2Proof.Machine.execCallOutOfRange n s
  | .enterMode m => Sys2Proof.Machine.execEnterMode m s
  | .saveStatus m => Sys2Proof.Machine.execSaveStatus m s
  | .restoreStatus m adj => Sys2Proof.Machine.execRestoreStatus m adj s
  | .readReg r => Sys2Proof.Machine.execReadReg r s
  | .writeReg r v => Sys2Proof.Machine.execWriteReg r v s
  | .readCpsr => Sys2Proof.Machine.execReadCpsr s
  | .writeCpsr v flags control => Sys2Proof.Machine.execWriteCpsr v flags control s
  | .readSpsr => Sys2Proof.Machine.execReadSpsr s
  | .writeSpsr v => Sys2Proof.Machine.execWriteSpsr v s
  | .trapReq k iaddr => Sys2Proof.Machine.execTrapReq k iaddr s
  | .boundary next => Sys2Proof.Machine.execBoundary next s
  | .routerResume => Sys2Proof.Machine.execRouterResume s

end Sys2Proof.Machine
end

