-- ==== Sys2Proof/Machine/Firmware.lean ====
section
/-! DEFINITION. Which step runs at `PC` (the firmware dispatch of R290), what the firmware steps without an
opcode-table row do, and fetching an instruction word of the block. -/

namespace Sys2Proof.Machine

/-- A firmware step that is no instruction of the table. -/
inductive Part where
  /-- The branch in vector slot k. -/
  | slot (k : TrapKind)
  /-- The sequencer from S1. -/
  | sequencer
  /-- The router from its checks. -/
  | router
  /-- `HANDLER_BODY[k]`, then `EXC_RETURN(k)`. -/
  | body (k : TrapKind)
  /-- A numbered step that continues the router or the sequencer. -/
  | micro (m : MicroStep)
deriving DecidableEq, Repr, Inhabited

/-- What runs next. -/
inductive Selected where
  | part (p : Part)
  | instr (i : Instr)
  /-- One of the block's own instruction words, fetched from memory. -/
  | fetched (i : Instr)
  /-- An instruction of the executor, outside the block. -/
  | executor
deriving DecidableEq, Repr

/-- The trap kinds in slot order (R67). -/
def trapKinds : List TrapKind := [.reset, .und, .swi, .pabt, .dabt, .rsvd, .irq, .fiq]

/-- What stands behind vector k (R290): the sequencer for RESET, UND and RSVD, the router for SWI, an OPEN body
for the four others. -/
def handlerPart : TrapKind → Part
  | .reset | .und | .rsvd => .sequencer
  | .swi => .router
  | .pabt => .body .pabt
  | .dabt => .body .dabt
  | .irq => .body .irq
  | .fiq => .body .fiq

/-- The firmware at address pc (R290), none for "anything else". The rows are tried in the table's order
(log 26). Call 0x00's handler is the sequencer. -/
def firmwareAt (p : Params) (pc : Word) : Option Selected :=
  match trapKinds.find? fun k => pc = vectorAddress p k with
  | some k => some (.part (.slot k))
  | none =>
    match trapKinds.find? fun k => pc = handlerEntry p k with
    | some k => some (.part (handlerPart k))
    | none =>
      match p.hCall.toList.findIdx? fun a => pc = a with
      | some n => some (.instr (decodeCall (BitVec.ofNat 8 n)))
      | none => if pc = p.routerRet then some (.instr .routerResume) else none

/-- The instruction the executor fetches at `PC`: the block's own words run as instructions (R108(2)), anything
else is the executor's (R290; log 20). Whether the fetch sees earlier stores "is outside the block" (R76): here it
is a `MemRead` of the current contents (DESIGN CHOICE, log 20). -/
def State.fetched (s : State) : Selected :=
  if s.pc.extractLsb' 0 2 ≠ 0 then .executor
  else
    match decodeArm32 (s.load4 s.pc).1 with
    | .ok i => .fetched i
    | .error _ => .executor

/-- What runs at `PC` (R290: "When `outcome = running` and `CPSR.T = 0`"). In the compact state it is the executor's
(R104), also while a numbered step is pending: the step waits until T is 0 (DESIGN CHOICE, log 23). -/
def State.selected (s : State) : Selected :=
  if Psr.t s.cpsr then .executor
  else
    match s.nextStep? with
    | some m => .part (.micro m)
    | none =>
      match firmwareAt s.params s.pc with
      | some x => x
      | none => s.fetched

/-- A numbered step. -/
def runMicro (m : MicroStep) (s : State) : Result :=
  match m with
  | .routerRead => s.routerRead
  | .routerMode n => s.routerMode n
  | .routerCall n => s.routerCall n
  | .seqS2 => s.sequencerS2
  | .seqS3 => s.sequencerS3
  | .seqS4 => s.sequencerS4
  | .seqS5 => s.sequencerS5
  | .seqS6 => s.sequencerS6

/-- A firmware step (R290). -/
def runPart (p : Part) (s : State) : Result :=
  match p with
  | .slot k => .next (s.setPc (handlerEntry s.params k))
  | .sequencer => s.sequencerS1
  | .router => s.routerStart
  | .body k => (s.handlerBody k).excReturn k
  | .micro m => runMicro m s

end Sys2Proof.Machine
end

