-- ==== Sys2Proof/Machine/Step.lean ====
section
/-! DEFINITION. One step: what the executor presents runs first; else a boundary is sampled (R285) and what
stands at `PC` runs (R290). -/

namespace Sys2Proof.Machine

/-- What runs at `PC`, after the boundary has taken no interrupt. -/
def runAtPc (s : State) : Host.Outcome State Fault Refusal :=
  match s.selected with
  | .part p => runPart p s
  | .instr i => exec i s
  | .fetched i => exec i (s.load4 s.pc).2
  | .executor => .refused (.executorInstruction s.pc)

/-- A step in a state that carries no mark. -/
def stepRunning (s : State) : Host.Outcome State Fault Refusal :=
  match s.requests with
  | q :: rest =>
    match decode q with
    | .ok (i, _) => exec i { s with requests := rest }
    | .error _ => .refused (.undecodable q)
  | [] =>
    match s.interruptNow with
    | some _ => .next (s.atBoundary s.pc)
    | none => runAtPc s.sampled

/-- One step. A fault or refusal is sticky: a state that carries one stops with it again (R13, R37). -/
def step (s : State) : Host.Outcome State Fault Refusal :=
  match s.outcome with
  | .running => stepRunning s
  | .faulted r => s.faultWith r
  | .refused r => s.refuseWith r

/-- s with the instruction of a table word presented as what the executor asks for next (log 7, log 21). -/
def State.withFetchWord (s : State) (nbits w : Nat) : State :=
  { s with requests := tableRequest nbits w :: s.requests }

end Sys2Proof.Machine
end

