-- ==== Sys2Proof/Safety.lean ====
section
/-! DEFINITION. The terms claims are stated in: the constraints on the parameters (R9, R10), the launch premise on
the firmware image (R78), the invariant of the machine, what R267 says of a trap entry, and what a safe run is. -/

namespace Sys2Proof.Machine

/-! ### Parameters and image -/

/-- The constraints of R9 and R10 on the addresses: each a multiple of 4. -/
def Params.aligned (p : Params) : Bool :=
  ([p.vectorBase, p.callTableBase, p.routerRet] ++ p.hVec.toList ++ p.hCall.toList).all
    fun a => a.extractLsb' 0 2 == 0

/-- The 42 placeholder calls (R183, R187 to R228). -/
def placeholderCalls : List Instr :=
  [.callRegisterRamReset, .callHalt, .callStop, .callIntrWait, .callVBlankIntrWait,
   .callDiv, .callDivArm, .callSqrt, .callArcTan, .callArcTan2,
   .callCpuSet, .callCpuFastSet, .callGetBiosChecksum, .callBgAffineSet, .callObjAffineSet,
   .callBitUnPack, .callLZ77UnCompWram, .callLZ77UnCompVram, .callHuffUnComp, .callRLUnCompWram,
   .callRLUnCompVram, .callDiff8bitUnFilterWram, .callDiff8bitUnFilterVram, .callDiff16bitUnFilter, .callSoundBias,
   .callSoundDriverInit, .callSoundDriverMode, .callSoundDriverMain, .callSoundDriverVSync, .callSoundChannelClear,
   .callMidiKey2Freq, .callMusicPlayerOpen, .callMusicPlayerStart, .callMusicPlayerStop, .callMusicPlayerContinue,
   .callMusicPlayerFadeOut, .callMultiBoot, .callHardReset, .callCustomHalt, .callSoundDriverVSyncOff,
   .callSoundDriverVSyncOn, .callSoundGetJumpList]

/-- What a selection does, with the placeholders taken as one and call 0x00's handler as the sequencer (R290:
"entries that select the same behaviour may coincide"). -/
def Selected.behaviour : Selected → Selected
  | .instr i =>
    if i = .callSoftReset then .part .sequencer
    else if placeholderCalls.contains i then .instr .callHalt
    else .instr i
  | .fetched i => .fetched i
  | .part p => .part p
  | .executor => .executor

/-- Every firmware address with what stands there (R290). -/
def Params.firmwareMap (p : Params) : List (Word × Selected) :=
  (trapKinds.map fun k => (vectorAddress p k, Selected.part (.slot k))) ++
  (trapKinds.map fun k => (handlerEntry p k, Selected.part (handlerPart k))) ++
  (List.zipWith (fun a i => (a, Selected.instr i)) p.hCall.toList callTable) ++
  [(p.routerRet, Selected.instr .routerResume)]

/-- "two addresses ... that select different behaviour are different addresses" (R10). -/
def Params.distinct (p : Params) : Bool :=
  (Params.firmwareMap p).all fun x => (Params.firmwareMap p).all fun y =>
    x.1 != y.1 || x.2.behaviour == y.2.behaviour

/-- The firmware dispatch finds at every firmware address what R290's table says of it. -/
def Params.Dispatches (p : Params) : Prop :=
  (∀ k, firmwareAt p (vectorAddress p k) = some (.part (.slot k))) ∧
  (∀ k, firmwareAt p (handlerEntry p k) = some (.part (handlerPart k))) ∧
  (∀ n : Fin 44, (firmwareAt p p.hCall[n]).map Selected.behaviour =
    some (Selected.instr (decodeCall (BitVec.ofNat 8 n.val))).behaviour) ∧
  firmwareAt p p.routerRet = some (.instr .routerResume)

/-- R78 and R68, the premise on `MEM`: it answers the call table's 44 words with the handlers' entries. -/
def ImageInPlace (s : State) : Prop :=
  ∀ n : Fin 44, (s.load4 (callSlot s.params (BitVec.ofNat 8 n.val))).1 = s.params.hCall[n]

/-- R78 and R67: slot k holds the branch to `H_VEC[k]`. -/
def SlotInPlace (s : State) (k : TrapKind) : Prop :=
  ∃ off24 : BitVec 24, decodeArm32 (s.load4 (vectorAddress s.params k)).1 = .ok (.b off24) ∧
    branchTarget (vectorAddress s.params k) off24 = handlerEntry s.params k

/-- The four bytes from a and the four from b have no address in common (addresses modulo 2^32). -/
def wordsApart (a b : Word) : Prop := 4 ≤ (a - b).toNat ∧ 4 ≤ (b - a).toNat

/-! ### States -/

/-- `MEM` is ordinary memory (R62), whatever its launch content. -/
abbrev State.OrdinaryMem (s : State) : Prop := s.params.memory ≠ .other

/-- The invariant of the machine: no mark (R37), "exactly one mode is active at any time" (R21), and memory in
canonical form. -/
def State.Inv (s : State) : Prop :=
  s.outcome = .running ∧ s.mode?.isSome = true ∧ s.memWf = true

/-- The next step runs what stands at `PC`: no mark, nothing presented, no interrupt taken at the boundary. -/
def State.RunsAtPc (s : State) : Prop :=
  s.outcome = .running ∧ s.requests = [] ∧ s.interruptNow = none

/-- The next step runs the firmware or fetched instruction x at `PC` (R290). -/
def State.RunsNext (s : State) (x : Selected) : Prop :=
  s.RunsAtPc ∧ Psr.t s.cpsr = false ∧ s.selected = x

/-- The next step runs the instruction i: presented, standing at `PC` as firmware, or fetched. -/
def State.RunsInstr (s : State) (i : Instr) : Prop :=
  (∃ q qs rest, s.outcome = .running ∧ s.requests = q :: qs ∧ decode q = .ok (i, rest)) ∨
    s.RunsNext (.instr i) ∨ s.RunsNext (.fetched i)

/-- The next step is one that asks something of `MEM`: the steps of R65's list, the executor's fetch, the open
bodies. -/
def State.MakesAccess (s : State) : Prop :=
  s.RunsNext (.part .router) ∨ s.RunsNext (.part (.micro .routerRead)) ∨
    (∃ n, s.RunsNext (.part (.micro (.routerCall n))) ∨ s.RunsInstr (.callOutOfRange n)) ∨
    s.RunsInstr .routerResume ∨ s.RunsInstr .callDebug ∨ s.RunsNext (.part (.micro .seqS3)) ∨
    s.RunsNext (.part (.micro .seqS6)) ∨ (∃ i, s.RunsNext (.fetched i)) ∨ ∃ k, s.RunsNext (.part (.body k))

/-! ### Trap entry -/

/-- The status word after the entry of kind k (R267): the entry mode, T = 0, I = 1, F = 1 for RESET and FIQ and as
it was for the others; every other bit as it was. -/
def EntryStatusWord (k : TrapKind) (w w' : Word) : Prop :=
  Psr.field w' = k.entryMode.enc ∧ Psr.t w' = false ∧ Psr.i w' = true ∧
    Psr.f w' = (decide (k = .reset ∨ k = .fiq) || Psr.f w) ∧ ∀ j, 8 ≤ j → w'.getLsbD j = w.getLsbD j

/-- Everything but r14 and the saved status word of bank b, `CPSR` and `PC` (and the model's own counter and list of
pending firmware steps) is the same in t as in s. -/
def OnlyBankWritten (b : SpsrBank) (s t : State) : Prop :=
  (∀ c, c ≠ b.bank → t.r14.get c = s.r14.get c) ∧ (∀ c, c ≠ b → t.spsr.get c = s.spsr.get c) ∧
    t = { s with r14 := t.r14, spsr := t.spsr, cpsr := t.cpsr, pc := t.pc,
                 pending := t.pending, freeCount := t.freeCount }

/-- What R267 says of the entry of kind k at address a: the status word, r14 and the saved status word of the entered
bank (for RESET they are `any`), `PC`, and nothing else. -/
def TrapTaken (k : TrapKind) (a : Word) (s t : State) : Prop :=
  EntryStatusWord k s.cpsr t.cpsr ∧
    (k ≠ .reset → t.r14.get k.entryBank.bank = linkValue k a (Psr.t s.cpsr) ∧ t.spsr.get k.entryBank = s.cpsr) ∧
    t.pc = vectorAddress s.params k ∧ OnlyBankWritten k.entryBank s t

/-- The row of the opcode table for a trap request of kind k. -/
def trapRow (k : TrapKind) (a : Word) : Instr :=
  match k with
  | .reset => .trapReqReset a | .und => .trapReqUnd a | .swi => .trapReqSwi a | .pabt => .trapReqPabt a
  | .dabt => .trapReqDabt a | .rsvd => .trapReqRsvd a | .irq => .trapReqIrq a | .fiq => .trapReqFiq a

/-- The row of the opcode table for the return of kind k. -/
def returnRow (k : TrapKind) : Instr :=
  match k with
  | .reset => .excReturnReset | .und => .excReturnUnd | .swi => .excReturnSwi | .pabt => .excReturnPabt
  | .dabt => .excReturnDabt | .rsvd => .excReturnRsvd | .irq => .excReturnIrq | .fiq => .excReturnFiq

/-- t is s with `CPSR` and `PC` replaced and nothing else. -/
def ReturnedTo (s t : State) (w pc : Word) : Prop :=
  t = { s with cpsr := w, pc := pc }

/-- t is s after a control transfer to v (R28): `PC` is v and nothing else changes; where v is another address than `PC`
held, what stands there starts (R290); where it is the same, nothing changes (the model's list of pending firmware steps
among the rest, log 9). -/
def TransferredTo (s t : State) (v : Word) : Prop :=
  t = { s with pc := v, pending := t.pending } ∧ (v = s.pc → t = s) ∧ (v ≠ s.pc → t.nextStep? = none)

/-- t is s after the router's step 5 begun in mode m (R158): the latch in that mode's r14, the word popped by one read of
`MEM` in `SPSR[svc]` and in `CPSR`, `PC` from `R14[svc]`, no call in progress, and nothing else. -/
def FrameReturned (m : Mode) (s t : State) : Prop :=
  t = { (s.load4 s.r13.svc).2 with
    cpsr := (s.load4 s.r13.svc).1, r14 := s.r14.set m.bank s.rtrLrSave, pc := (s.r14.set m.bank s.rtrLrSave).svc,
    spsr := s.spsr.set .svc (s.load4 s.r13.svc).1, r13 := s.r13.set .svc (s.r13.svc + 4),
    rtrActive := false }

/-! ### Runs -/

/-- n steps. -/
def runFor (n : Nat) (s : State) : Result := Host.Core.run core n s

/-- A run of n steps that neither faults nor is refused. -/
def SafeRun (n : Nat) (s : State) : Prop := ∃ t : State, runFor n s = .next t

end Sys2Proof.Machine
end

