-- ==== Sys2Proof/Certificates/Slice0/Obligations.lean ====
section
/-! DEFINITION. The statements. Each docstring names the rules of spec/ it formalises, and the decisions of
92_eei_decisions.md (D<n>) or log entries it rests on. Unless it says otherwise a statement is about every state, those
that no run reaches among them. -/

open Sys2Proof Sys2Proof.Machine

/-! ### Encoding and decoding -/

/-- Decoding an encoded well-formed instruction gives it back, with every operand, whatever bytes follow (R90 to R94,
R97, R99, R101; the operand words are the model's, log 8). -/
def Obligations.DecodeOfEncode : Prop :=
  ∀ (i : Instr) (rest : List Byte), i.wellFormed = true →
    decode { format := (encode i).format, bytes := (encode i).bytes ++ rest } = .ok (i, rest)

/-- Every ARM32 word that the decoder reads is the word of the instruction it reads (R92, R97, R99, R108; D43). -/
def Obligations.EncodeOfDecodedArm32 : Prop :=
  ∀ (w : Word) (i : Instr), decodeArm32 w = .ok i → encode i = arm32Request w

/-- What the decoder answers is well formed (R108). -/
def Obligations.DecodedIsWellFormed : Prop :=
  ∀ (q : Request) (i : Instr) (rest : List Byte), decode q = .ok (i, rest) → i.wellFormed = true

/-- Words written out from R92, R97, R99 (95 T40). -/
def Obligations.WordsOfTheSpecDecode : Prop :=
  decodeArm32 0xE1B0F00E = .ok .movsPcLr ∧ decodeArm32 0xE25EF004 = .ok .subsPcLr4 ∧
  decodeArm32 0xE25EF008 = .ok .subsPcLr8 ∧ decodeArm32 0xEA00000C = .ok (.b 0xC) ∧
  decodeArm32 0xEF00002B = .ok (.swiDebug 0xE 0) ∧ decodeArm32 0xEF000006 = .ok (.swiDiv 0xE 0) ∧
  decodeArm32 0xEF00002C = .ok (.swi 0xE 0x2C) ∧ decodeArm32 0xE12FFF1E = .error .notTheBlocks ∧
  decodeArm32 0xE1A0F00E = .error .notTheBlocks ∧ decodeArm32 0xE25EF00C = .error .notTheBlocks

/-- UOP codes 1100 to 1111 name no operation: the decoder refuses them, whatever follows (R101, R102(d); D38). -/
def Obligations.ReservedUopCodesRefused : Prop :=
  ∀ (code : Byte) (rest : List Byte), 12 ≤ code.toNat → code.toNat ≤ 15 →
    decode { format := .uop, bytes := code :: rest } = .error .reservedUop

/-! ### The step around exec -/

/-- When what is presented decodes to i, the step is exec of i with the request consumed and nothing else changed
(R7, R108; the request list is the model's, log 7). -/
def Obligations.StepRunsPresentedInstruction : Prop :=
  ∀ (s : State) (q : Request) (qs : List Request) (i : Instr) (rest : List Byte),
    s.outcome = .running → s.requests = q :: qs → decode q = .ok (i, rest) →
      step s = exec i { s with requests := qs }

/-- When nothing is presented, the boundary takes no interrupt, `PC` is a multiple of 4 outside the firmware and the
word `MEM` answers there decodes to i, the step is exec of i with the boundary's sample used up and nothing else changed,
`PC` among the rest, but what the read does to another `MEM` than the ordinary one (R62, R108(2), R285, R290; fetching,
and that it sees earlier stores, is the model's, log 20). -/
def Obligations.StepRunsFetchedInstruction : Prop :=
  ∀ (s : State) (i : Instr), s.RunsAtPc → Psr.t s.cpsr = false → s.nextStep? = none →
    firmwareAt s.params s.pc = none → s.pc.extractLsb' 0 2 = 0 →
    decodeArm32 (s.load4 s.pc).1 = .ok i →
      step s = exec i { (s.load4 s.pc).2 with lines := s.lines.tail } ∧
      (s.OrdinaryMem → s.load4 s.pc = (s.wordAt s.pc, s))

/-- A boundary lies before every firmware step and every fetched instruction: where it takes an interrupt, that trap
entry, with `next` the current `PC`, is the whole step; FIQ before IRQ (R285; D13, D14). -/
def Obligations.StepTakesInterruptAtBoundary : Prop :=
  ∀ (s : State) (l : Lines) (ls : List Lines), s.outcome = .running → s.requests = [] → s.lines = l :: ls →
    (l.fiq = true → Psr.f s.cpsr = false →
      ∃ t, step s = .next t ∧ TrapTaken .fiq s.pc { s with lines := ls } t) ∧
    (¬ (l.fiq = true ∧ Psr.f s.cpsr = false) → l.irq = true → Psr.i s.cpsr = false →
      ∃ t, step s = .next t ∧ TrapTaken .irq s.pc { s with lines := ls } t)

/-- A fault or refusal is sticky: a state that carries one has no next state (R13, R37). -/
def Obligations.MarkedStateHasNoNextState : Prop :=
  ∀ s t : State, s.outcome ≠ .running → step s ≠ .next t

/-- Firmware dispatch (R290): the vector slot's branch is `pc <- H_VEC[k]` (R67, R317), and behind the vectors of the
Prefetch-Abort, Data-Abort, IRQ and FIQ traps the body runs and then the return of that kind (D33; log 11); at a call
handler's entry and at `ROUTER_RET` the step is exec of that instruction. -/
def Obligations.FirmwareSlotsAndBodies : Prop :=
  ∀ (s : State) (k : TrapKind) (i : Instr),
    (s.RunsNext (.instr i) → step s = exec i { s with lines := s.lines.tail }) ∧
    (s.RunsNext (.part (.slot k)) → ∃ t, step s = .next t ∧
      TransferredTo { s with lines := s.lines.tail } t (handlerEntry s.params k)) ∧
    (s.RunsNext (.part (.body k)) →
      step s = exec (returnRow k) (State.handlerBody { s with lines := s.lines.tail } k))

/-- The dispatch finds what R290 says at every firmware address, for any parameters in which addresses that select
different behaviour differ (R10, R290; D40). -/
def Obligations.DistinctAddressesDispatch : Prop :=
  ∀ p : Params, Params.distinct p = true → Params.Dispatches p

/-- Where slot k holds the branch that the image must hold there (R67, R78, R98), running that word as the branch
instruction gives exactly the dispatch's slot step (R317). -/
def Obligations.SlotBranchAgreesWithDispatch : Prop :=
  ∀ (s : State) (k : TrapKind), SlotInPlace s k → s.pc = vectorAddress s.params k →
    ∃ i : Instr, decodeArm32 (s.load4 s.pc).1 = .ok i ∧ exec i s = runPart (.slot k) s

/-! ### Reset -/

/-- The state after the Reset entry, where R41 gives a value: Supervisor mode, both interrupts disabled, the 32-bit
encoding, `PC` at the reset vector; and the cells of R40 (D8, D12, D37). -/
def Obligations.ResetStateHasSpecValues : Prop :=
  Psr.field State.reset.cpsr = Mode.svc.enc ∧ Psr.i State.reset.cpsr = true ∧ Psr.f State.reset.cpsr = true ∧
    Psr.t State.reset.cpsr = false ∧ State.reset.pc = vectorAddress State.reset.params .reset ∧
    State.reset.rtrActive = false ∧ State.reset.outcome = .running

/-- A RESET request is taken in every state, whatever the masks and whatever the mode field: `CPSR[7:0]` becomes 0xD3,
the other bits stay, `PC` is the reset vector, `R14[svc]` and `SPSR[svc]` are `any`, nothing else changes (R268, R267,
R287; D8, D12; log 10). -/
def Obligations.ResetRequestAlwaysTaken : Prop :=
  ∀ (s : State) (a : Word), ∀ i ∈ [Instr.trapReqReset a, .trapReq .reset a],
    ∃ t, exec i s = .next t ∧ t.cpsr.extractLsb' 0 8 = 0xD3 ∧ (∀ j, 8 ≤ j → t.cpsr.getLsbD j = s.cpsr.getLsbD j) ∧
      t.pc = vectorAddress s.params .reset ∧ OnlyBankWritten .svc s t

/-! ### The Status Word Manager -/

/-- R121: outside User mode the mode field becomes enc(m), every other bit of the status word and all other state stay
(R23, R319); in User mode the operation is refused and changes nothing (D18). -/
def Obligations.EnterModeChangesModeFieldOnly : Prop :=
  ∀ (s : State) (m m' : Mode), s.mode? = some m' →
    (m' ≠ .usr → ∃ t, exec (.enterMode m) s = .next t ∧ Psr.field t.cpsr = m.enc ∧
      (∀ j, 5 ≤ j → t.cpsr.getLsbD j = s.cpsr.getLsbD j) ∧ t = { s with cpsr := t.cpsr }) ∧
    (m' = .usr → exec (.enterMode m) s =
      .refused (.enterModeFromUser { s with outcome := .refused .enterModeFromUser }))

/-- R122: all 32 bits of `CPSR` go to the saved status word of mode m and nothing else changes; for User and System there
is none (R34; D17). -/
def Obligations.SaveStatusCopiesCpsr : Prop :=
  ∀ (s : State) (m : Mode),
    (∀ b, m.spsrBank? = some b → ∃ t, exec (.saveStatus m) s = .next t ∧ t.spsr.get b = s.cpsr ∧
      (∀ c, c ≠ b → t.spsr.get c = s.spsr.get c) ∧ t = { s with spsr := t.spsr }) ∧
    (m = .usr ∨ m = .sys → exec (.saveStatus m) s = .fault (.noSpsr { s with outcome := .faulted .noSpsr }))

/-- R123, R124, R125: in mode m, with a saved status word whose mode field names a mode, status word and `PC` are
restored in one step and nothing else changes; where it names none both writes are performed and the fault is marked;
User and System have no saved status word; another mode than m is a fault (D15, D16, D17). -/
def Obligations.RestoreStatusIsOneStep : Prop :=
  ∀ (s : State) (m : Mode) (adj : Adjustment),
    (∀ b, m.spsrBank? = some b → s.mode? = some m →
      ((Psr.mode? (s.spsr.get b)).isSome = true →
        ∃ t, exec (.restoreStatus m adj) s = .next t ∧
          ReturnedTo s t (s.spsr.get b) (s.r14.get b.bank + adj.word)) ∧
      (Psr.mode? (s.spsr.get b) = none →
        ∃ t, exec (.restoreStatus m adj) s = .fault (.invalidModeField t) ∧
          ReturnedTo { s with outcome := .faulted .invalidModeField } t (s.spsr.get b)
            (s.r14.get b.bank + adj.word))) ∧
    (m = .usr ∨ m = .sys →
      exec (.restoreStatus m adj) s = .fault (.noSpsr { s with outcome := .faulted .noSpsr })) ∧
    (m ≠ .usr → m ≠ .sys → s.mode? ≠ some m →
      exec (.restoreStatus m adj) s =
        .fault (.returnModeMismatch { s with outcome := .faulted .returnModeMismatch }))

/-! ### Register and status access -/

/-- R126 through the view of R27: r0 to r7 and `PC` in every state; r8 to r12 the private ones in FIQ mode where the
parameter says so (R25); r13 and r14 by the bank of the mode, User and System sharing one (R22, R24). The value goes to
the model's reply cell (log 19), nothing else changes. Without a mode r13 and r14 fault (D5, D6, D16, D46). -/
def Obligations.ReadRegThroughView : Prop :=
  ∀ s : State,
    (∀ i : Fin 8, exec (.readReg ⟨i.val, by omega⟩) s = .next { s with reply := some s.gpr[i.val] }) ∧
    (∀ i : Fin 5, exec (.readReg ⟨i.val + 8, by omega⟩) s = .next
      (if s.mode? = some .fiq ∧ s.params.fiqBankR8R12 = true then { s with reply := some s.fiqHi[i.val] }
        else { s with reply := some s.gpr[i.val + 8] })) ∧
    (∀ m, s.mode? = some m → exec (.readReg 13) s = .next { s with reply := some (s.r13.get m.bank) } ∧
      exec (.readReg 14) s = .next { s with reply := some (s.r14.get m.bank) }) ∧
    exec (.readReg 15) s = .next { s with reply := some s.pc } ∧
    (s.mode? = none → ∀ r : Fin 16, r = 13 ∨ r = 14 →
      exec (.readReg r) s = .fault (.invalidModeField { s with outcome := .faulted .invalidModeField }))

/-- R127 through the view of R27: the cell a read would select is written and nothing else changes; a write of r15 is
`pc <- v` with no mask (D5, D6, D16, D35, D46). -/
def Obligations.WriteRegThroughView : Prop :=
  ∀ (s : State) (v : Word),
    (∀ i : Fin 8, exec (.writeReg ⟨i.val, by omega⟩ v) s = .next { s with gpr := s.gpr.set i.val v }) ∧
    (∀ i : Fin 5, exec (.writeReg ⟨i.val + 8, by omega⟩ v) s = .next
      (if s.mode? = some .fiq ∧ s.params.fiqBankR8R12 = true then { s with fiqHi := s.fiqHi.set i.val v }
        else { s with gpr := s.gpr.set (i.val + 8) v })) ∧
    (∀ m, s.mode? = some m →
      exec (.writeReg 13 v) s = .next { s with r13 := s.r13.set m.bank v } ∧
      exec (.writeReg 14 v) s = .next { s with r14 := s.r14.set m.bank v }) ∧
    exec (.writeReg 15 v) s = .next { s with pc := v } ∧
    (s.mode? = none → ∀ r : Fin 16, r = 13 ∨ r = 14 →
      exec (.writeReg r v) s = .fault (.invalidModeField { s with outcome := .faulted .invalidModeField }))

/-- A register written is read back, and every other register reads as before (R27: "A write ... stores into the same cell
a read would select"). -/
def Obligations.WrittenRegisterReadsBack : Prop :=
  ∀ (s t : State) (i : Fin 16) (v : Word), exec (.writeReg i v) s = .next t →
    exec (.readReg i) t = .next { t with reply := some v } ∧
    ∀ j : Fin 16, j ≠ i → ∀ w : Word, exec (.readReg j) s = .next { s with reply := some w } →
      exec (.readReg j) t = .next { t with reply := some w }

/-- R129, where the written mode field names a mode: bits 31:28 from v if flags is in the mask, bits 7:0 from v if control
is and the mode is not User, every other bit and all other state as before (D46). -/
def Obligations.WriteCpsrWritesMaskedFields : Prop :=
  ∀ (s : State) (m : Mode) (v : Word) (flags control : Bool), s.mode? = some m →
    (control = true → m ≠ .usr → (Psr.mode? v).isSome = true) →
      ∃ t, exec (.writeCpsr v flags control) s = .next t ∧ t = { s with cpsr := t.cpsr } ∧
        ∀ j, t.cpsr.getLsbD j =
          if (flags = true ∧ 28 ≤ j) ∨ (control = true ∧ m ≠ .usr ∧ j < 8) then v.getLsbD j else s.cpsr.getLsbD j

/-- R129, where the control field is written with a mode field that names no mode: the write is performed and the fault
marked (D16). -/
def Obligations.WriteCpsrInvalidModeFaults : Prop :=
  ∀ (s : State) (m : Mode) (v : Word) (flags : Bool), s.mode? = some m → m ≠ .usr → Psr.mode? v = none →
    ∃ t, exec (.writeCpsr v flags true) s = .fault (.invalidModeField t) ∧
      t = { s with cpsr := t.cpsr, outcome := .faulted .invalidModeField } ∧
      ∀ j, t.cpsr.getLsbD j =
        if (flags = true ∧ 28 ≤ j) ∨ j < 8 then v.getLsbD j else s.cpsr.getLsbD j

/-- R128: READ_CPSR answers the whole status word in every mode. R130, R131: the saved status word of the current mode is read,
and written with any 32-bit value (R33); in User and System mode there is none (R34; D17). Nothing else changes. -/
def Obligations.StatusWordAccess : Prop :=
  (∀ s : State, exec .readCpsr s = .next { s with reply := some s.cpsr }) ∧
  ∀ (s : State) (m : Mode) (v : Word), s.mode? = some m →
    (∀ b, m.spsrBank? = some b →
      exec .readSpsr s = .next { s with reply := some (s.spsr.get b) } ∧
      ∃ t, exec (.writeSpsr v) s = .next t ∧ t.spsr.get b = v ∧ (∀ c, c ≠ b → t.spsr.get c = s.spsr.get c) ∧
        t = { s with spsr := t.spsr }) ∧
    (m = .usr ∨ m = .sys →
      exec .readSpsr s = .fault (.noSpsr { s with outcome := .faulted .noSpsr }) ∧
      exec (.writeSpsr v) s = .fault (.noSpsr { s with outcome := .faulted .noSpsr }))

/-! ### Trap entry -/

/-- R267 for the synchronous kinds, by the kind's own row and by the general one: taken in every mode, with everything
else unchanged (R264, R287; D8 to D11). -/
def Obligations.SynchronousTrapEntry : Prop :=
  ∀ (s : State) (k : TrapKind) (a : Word), k ∈ [TrapKind.und, .swi, .pabt, .dabt, .rsvd] →
    ∀ i ∈ [trapRow k a, .trapReq k a], ∃ t, exec i s = .next t ∧ TrapTaken k a s t

/-- R267, R274, R275 for IRQ and FIQ with their mask clear; with it set (R287 "`CPSR.I = 1` prevents IRQ entry") the request
is not taken and nothing changes, which is the model's reading (log 15; D8, D11). -/
def Obligations.InterruptEntryUnlessMasked : Prop :=
  ∀ (s : State) (a : Word),
    (∀ i ∈ [Instr.trapReqIrq a, .trapReq .irq a],
      (Psr.i s.cpsr = false → ∃ t, exec i s = .next t ∧ TrapTaken .irq a s t) ∧
      (Psr.i s.cpsr = true → exec i s = .next s)) ∧
    (∀ i ∈ [Instr.trapReqFiq a, .trapReq .fiq a],
      (Psr.f s.cpsr = false → ∃ t, exec i s = .next t ∧ TrapTaken .fiq a s t) ∧
      (Psr.f s.cpsr = true → exec i s = .next s))

/-- R270: the SWI entry, cell by cell. -/
def Obligations.SwiEntryCells : Prop :=
  ∀ (s : State) (a : Word), ∃ t, exec (.trapReqSwi a) s = .next t ∧
    t.r14.svc = a + (if Psr.t s.cpsr then 2 else 4) ∧ t.spsr.svc = s.cpsr ∧
    Psr.field t.cpsr = 0x13 ∧ Psr.i t.cpsr = true ∧ Psr.t t.cpsr = false ∧ Psr.f t.cpsr = Psr.f s.cpsr ∧
    (∀ j, 8 ≤ j → t.cpsr.getLsbD j = s.cpsr.getLsbD j) ∧
    t.pc = s.params.vectorBase + 0x08 ∧ OnlyBankWritten .svc s t

/-- R266 and R262: link value plus adjustment is the next instruction for UND and SWI and the same instruction for the five
others (D10, D11). -/
def Obligations.LinkPlusAdjustmentIsResumption : Prop :=
  ∀ (k : TrapKind) (adj : Adjustment) (a : Word) (t : Bool), k.adjustment? = some adj →
    linkValue k a t + adj.word =
      if k = .und ∨ k = .swi then a + (if t then 2 else 4) else a

/-- R262: the fixed adjustments, none for Reset. -/
def Obligations.ReturnAdjustments : Prop :=
  TrapKind.adjustment? .reset = none ∧
  (TrapKind.adjustment? .und).map Adjustment.word = some 0x00000000 ∧
  (TrapKind.adjustment? .swi).map Adjustment.word = some 0x00000000 ∧
  (TrapKind.adjustment? .pabt).map Adjustment.word = some 0xFFFFFFFC ∧
  (TrapKind.adjustment? .dabt).map Adjustment.word = some 0xFFFFFFF8 ∧
  (TrapKind.adjustment? .irq).map Adjustment.word = some 0xFFFFFFFC ∧
  (TrapKind.adjustment? .fiq).map Adjustment.word = some 0xFFFFFFFC ∧
  (TrapKind.adjustment? .rsvd).map Adjustment.word = some 0xFFFFFFFC

/-- R285, BOUNDARY: FIQ when its line is high and F is clear; else IRQ when its line is high and I is clear; else nothing
but the sample used up; nothing at all where no line value is left, both lines being low (D13, D14; the list of line
values is the model's, low beyond its end, log 6). -/
def Obligations.BoundarySamplesLines : Prop :=
  ∀ (s : State) (next : Word),
    (∀ (l : Lines) (ls : List Lines), s.lines = l :: ls →
      (l.fiq = true → Psr.f s.cpsr = false →
        ∃ t, exec (.boundary next) s = .next t ∧ TrapTaken .fiq next { s with lines := ls } t) ∧
      (¬ (l.fiq = true ∧ Psr.f s.cpsr = false) → l.irq = true → Psr.i s.cpsr = false →
        ∃ t, exec (.boundary next) s = .next t ∧ TrapTaken .irq next { s with lines := ls } t) ∧
      (¬ (l.fiq = true ∧ Psr.f s.cpsr = false) → ¬ (l.irq = true ∧ Psr.i s.cpsr = false) →
        exec (.boundary next) s = .next { s with lines := ls })) ∧
    (s.lines = [] → exec (.boundary next) s = .next s)

/-! ### Trap return -/

/-- R278 to R284: the return of each kind in its mode, with a saved status word that names a mode, by its row and by its
instruction word; one step, nothing else changes. Where the saved status word names no mode, both writes are performed and
the fault is marked (R125, R276; D16). -/
def Obligations.ReturnOfEachKind : Prop :=
  ∀ s : State,
    (∀ (k : TrapKind) (adj : Adjustment), k.adjustment? = some adj → s.mode? = some k.entryMode →
      Psr.mode? (s.spsr.get k.entryBank) = none →
      ∃ t, exec (returnRow k) s = .fault (.invalidModeField t) ∧
        ReturnedTo { s with outcome := .faulted .invalidModeField } t (s.spsr.get k.entryBank)
          (s.r14.get k.entryBank.bank + adj.word)) ∧
    (s.mode? = some .und → (Psr.mode? s.spsr.und).isSome = true → ∀ i ∈ [Instr.excReturnUnd, .movsPcLr],
      ∃ t, exec i s = .next t ∧ ReturnedTo s t s.spsr.und (s.r14.und + 0)) ∧
    (s.mode? = some .svc → (Psr.mode? s.spsr.svc).isSome = true → ∀ i ∈ [Instr.excReturnSwi, .movsPcLr],
      ∃ t, exec i s = .next t ∧ ReturnedTo s t s.spsr.svc (s.r14.svc + 0)) ∧
    (s.mode? = some .abt → (Psr.mode? s.spsr.abt).isSome = true → ∀ i ∈ [Instr.excReturnPabt, .subsPcLr4],
      ∃ t, exec i s = .next t ∧ ReturnedTo s t s.spsr.abt (s.r14.abt - 4)) ∧
    (s.mode? = some .abt → (Psr.mode? s.spsr.abt).isSome = true → ∀ i ∈ [Instr.excReturnDabt, .subsPcLr8],
      ∃ t, exec i s = .next t ∧ ReturnedTo s t s.spsr.abt (s.r14.abt - 8)) ∧
    (s.mode? = some .svc → (Psr.mode? s.spsr.svc).isSome = true → ∀ i ∈ [Instr.excReturnRsvd, .subsPcLr4],
      ∃ t, exec i s = .next t ∧ ReturnedTo s t s.spsr.svc (s.r14.svc - 4)) ∧
    (s.mode? = some .irq → (Psr.mode? s.spsr.irq).isSome = true → ∀ i ∈ [Instr.excReturnIrq, .subsPcLr4],
      ∃ t, exec i s = .next t ∧ ReturnedTo s t s.spsr.irq (s.r14.irq - 4)) ∧
    (s.mode? = some .fiq → (Psr.mode? s.spsr.fiq).isSome = true → ∀ i ∈ [Instr.excReturnFiq, .subsPcLr4],
      ∃ t, exec i s = .next t ∧ ReturnedTo s t s.spsr.fiq (s.r14.fiq - 4))

/-- R277: there is no return from Reset. -/
def Obligations.ResetHasNoReturn : Prop :=
  ∀ s : State, exec .excReturnReset s =
    .refused (.resetHasNoReturn { s with outcome := .refused .resetHasNoReturn })

/-- R276: a return for a mode that is not the current one faults (D15). -/
def Obligations.ReturnInWrongModeFaults : Prop :=
  ∀ (s : State) (k : TrapKind), k ≠ .reset → s.mode? ≠ some k.entryMode →
    exec (returnRow k) s = .fault (.returnModeMismatch { s with outcome := .faulted .returnModeMismatch })

/-- The return words in any mode that has a saved status word: the word names no mode and uses the visible bank (R99, R123);
where that saved status word names no mode, both writes are performed and the fault is marked (R125); in User and System
mode there is none. That they run in the modes of no kind with that adjustment is the model's reading (log 14). -/
def Obligations.ReturnWordUsesVisibleBank : Prop :=
  ∀ (s : State) (m : Mode), s.mode? = some m →
    ∀ p ∈ [(Instr.movsPcLr, (0 : Word)), (.subsPcLr4, 4), (.subsPcLr8, 8)],
      (∀ b, m.spsrBank? = some b → (Psr.mode? (s.spsr.get b)).isSome = true →
        ∃ t, exec p.1 s = .next t ∧ ReturnedTo s t (s.spsr.get b) (s.r14.get b.bank - p.2)) ∧
      (∀ b, m.spsrBank? = some b → Psr.mode? (s.spsr.get b) = none →
        ∃ t, exec p.1 s = .fault (.invalidModeField t) ∧
          ReturnedTo { s with outcome := .faulted .invalidModeField } t (s.spsr.get b) (s.r14.get b.bank - p.2)) ∧
      (m = .usr ∨ m = .sys → exec p.1 s = .fault (.noSpsr { s with outcome := .faulted .noSpsr }))

/-- Entry then return (R267, R276; R291): from any state with a mode, the return of the kind that was entered restores the
status word, resumes where R266 says, and leaves everything but the entered bank's r14 and saved status word as it was. So
the return from an interrupt taken between two numbered steps of the router or the sequencer takes the pending step up
again (R151, R325; D47); how it is found again is the model's (log 9): by `PC`, the mode and Supervisor mode's cells, which
an entry into Supervisor mode has overwritten (R292). -/
def Obligations.EntryThenReturnRestores : Prop :=
  ∀ (s u : State) (k : TrapKind) (a : Word), k ≠ .reset → s.mode?.isSome = true → s.masked k = false →
    exec (.trapReq k a) s = .next u →
      ∃ t, exec (returnRow k) u = .next t ∧ t.cpsr = s.cpsr ∧
        t.pc = (if k = .und ∨ k = .swi then a + (if Psr.t s.cpsr then 2 else 4) else a) ∧
        (t.pc ≠ vectorAddress s.params k →
          t.nextStep? = ({ s with pc := t.pc, r14 := t.r14, spsr := t.spsr } : State).nextStep? ∧
          (t.pc = s.pc → k.entryBank ≠ .svc → t.nextStep? = s.nextStep?)) ∧
        OnlyBankWritten k.entryBank s t

/-- Nesting into a different mode is safe (R291): a trap taken inside a handler, into another bank, and returned from, leaves
the outer handler's return exact. -/
def Obligations.NestedTrapKeepsOuterReturn : Prop :=
  ∀ (s u v w : State) (k k' : TrapKind) (a a' : Word), k ≠ .reset → k' ≠ .reset → k.entryBank ≠ k'.entryBank →
    s.mode?.isSome = true → s.masked k = false → u.masked k' = false →
    exec (.trapReq k a) s = .next u → exec (.trapReq k' a') u = .next v → exec (returnRow k') v = .next w →
      w.cpsr = u.cpsr ∧ ∃ t, exec (returnRow k) w = .next t ∧ t.cpsr = s.cpsr ∧
        t.pc = (if k = .und ∨ k = .swi then a + (if Psr.t s.cpsr then 2 else 4) else a) ∧
        t.gpr = s.gpr ∧ t.fiqHi = s.fiqHi ∧ t.r13 = s.r13 ∧ t.mem = s.mem

/-! ### The branch and the SWI instruction -/

/-- R98: `pc <- A + 8 + (sext_24(off24) << 2)`, A the branch's own address; nothing else is written (D43). What becomes of
a firmware step pending at A is the model's (log 9). -/
def Obligations.BranchTarget : Prop :=
  ∀ (s : State) (off24 : BitVec 24), ∃ t, exec (.b off24) s = .next t ∧
    TransferredTo s t (s.pc + 8 + BitVec.ofInt 32 (4 * off24.toInt))

/-- R150: each of the 45 SWI instructions, under the condition "always", in every mode, raises SWI with its own address
and does nothing else. -/
def Obligations.SwiAlwaysRaisesTrap : Prop :=
  ∀ s : State,
    (∀ f ∈ swiTable, ∀ immHi : BitVec 16, ∃ t, exec (f 0xE immHi) s = .next t ∧ TrapTaken .swi s.pc s t) ∧
    (∀ imm24 : BitVec 24, ∃ t, exec (.swi 0xE imm24) s = .next t ∧ TrapTaken .swi s.pc s t)

/-- R150: an SWI raises its trap where its condition holds; where it does not, it only passes to the next instruction.
Which conditions but "always" hold is free (R92; log 12); where the skip goes is the model's (log 13). -/
def Obligations.ConditionalSwiRaisesOrSkips : Prop :=
  ∀ (s : State) (cond : BitVec 4),
    (∀ f ∈ swiTable, ∀ immHi : BitVec 16, ∃ t, exec (f cond immHi) s = .next t ∧
      (if conditionHolds cond s.cpsr = true then TrapTaken .swi s.pc s t
        else TransferredTo s t (s.pc + (if Psr.t s.cpsr then 2 else 4)))) ∧
    (∀ imm24 : BitVec 24, ∃ t, exec (.swi cond imm24) s = .next t ∧
      (if conditionHolds cond s.cpsr = true then TrapTaken .swi s.pc s t
        else TransferredTo s t (s.pc + (if Psr.t s.cpsr then 2 else 4))))

/-! ### The router -/

/-- R151, R152: at `H_VEC[2]` the three checks, then step 1 pushes SPSR[svc] on the Supervisor stack by one write to `MEM`
(D19, D22, D24): in ordinary memory (R62) the four bytes hold it little-endian and every other byte is as before. -/
def Obligations.RouterChecksAndPush : Prop :=
  ∀ s : State, s.RunsNext (.part .router) →
    (s.mode? ≠ some .svc →
      step s = .fault (.routerNotInSvc { s with lines := s.lines.tail, outcome := .faulted .routerNotInSvc })) ∧
    (s.mode? = some .svc → s.rtrActive = true →
      step s = .fault (.routerReentry { s with lines := s.lines.tail, outcome := .faulted .routerReentry })) ∧
    (s.mode? = some .svc → s.rtrActive = false → Psr.t s.spsr.svc = true →
      step s = .refused (.swiFromCompactState
        { s with lines := s.lines.tail, outcome := .refused .swiFromCompactState })) ∧
    (s.mode? = some .svc → s.rtrActive = false → Psr.t s.spsr.svc = false →
      ∃ t, step s = .next t ∧
        t = { s.store4 (s.r13.svc - 4) s.spsr.svc with
                r13 := s.r13.set .svc (s.r13.svc - 4), pending := t.pending, lines := s.lines.tail } ∧
        t.nextStep? = some .routerRead ∧
        (s.OrdinaryMem → s.memWf = true → t.freeCount = s.freeCount ∧ t.wordAt (s.r13.svc - 4) = s.spsr.svc ∧
          ∀ c : Word, 4 ≤ (c - (s.r13.svc - 4)).toNat → t.byteAt c = s.byteAt c))

/-- R153: step 2 reads the word at `R14[svc] - 4` and takes its low byte as the call number; in ordinary memory that is the
byte at that address (R63, R93; D20, D21). Nothing else changes. -/
def Obligations.RouterReadsCallNumber : Prop :=
  ∀ s : State, s.RunsNext (.part (.micro .routerRead)) →
    (∃ t, step s = .next t ∧
      t = { (s.load4 (s.r14.svc - 4)).2 with lines := s.lines.tail, pending := t.pending } ∧
      t.nextStep? = some (.routerMode ((s.load4 (s.r14.svc - 4)).1.extractLsb' 0 8))) ∧
    (s.OrdinaryMem → (s.load4 (s.r14.svc - 4)).2 = s ∧
      (s.load4 (s.r14.svc - 4)).1.extractLsb' 0 8 = s.byteAt (s.r14.svc - 4))

/-- R154: step 3 enters System mode with every other bit of the status word kept, r13 and r14 are those of User mode, and
nothing else changes. -/
def Obligations.RouterEntersSystemMode : Prop :=
  ∀ (s : State) (n : Byte), s.RunsNext (.part (.micro (.routerMode n))) → (∃ m, s.mode? = some m ∧ m ≠ .usr) →
    ∃ t, step s = .next t ∧ t.mode? = some .sys ∧ (∀ j, 5 ≤ j → t.cpsr.getLsbD j = s.cpsr.getLsbD j) ∧
      t.x 13 = some s.r13.usr ∧ t.x 14 = some s.r14.usr ∧
      t = { s with cpsr := t.cpsr, pending := t.pending, lines := s.lines.tail } ∧ t.nextStep? = some (.routerCall n)

/-- R155, R156: step 4 calls the word that `MEM` answers for slot `CALL_TABLE_BASE + 4*n`, the link being `ROUTER_RET` and
the caller's link kept in the latch; the same for a call number above 0x2B (R159) under the policy `faithful`, also as the
call row CALL.OUT_OF_RANGE (log 18); under `fatal` both fault, after the table read (R160; D23, D25). -/
def Obligations.RouterCallsTableEntry : Prop :=
  ∀ (s : State) (m : Mode) (n : Byte), s.mode? = some m →
    let r := s.load4 (s.params.callTableBase + 4 * BitVec.ofNat 32 n.toNat)
    let t (l : List Pending) : State := { r.2 with
      rtrLrSave := s.r14.get m.bank, r14 := s.r14.set m.bank s.params.routerRet, rtrActive := true,
      pc := r.1, pending := l }
    (s.OrdinaryMem → r = (s.wordAt (s.params.callTableBase + 4 * BitVec.ofNat 32 n.toNat), s)) ∧
    ((n.toNat ≤ 0x2B ∨ s.params.oorPolicy = .faithful) →
      ∃ l, (t l).nextStep? = none ∧ exec (.callOutOfRange n) s = .next (t l) ∧
        (s.RunsNext (.part (.micro (.routerCall n))) → step s = .next { t l with lines := s.lines.tail })) ∧
    (0x2B < n.toNat → s.params.oorPolicy = .fatal →
      exec (.callOutOfRange n) s = .fault (.swiOutOfRange { r.2 with outcome := .faulted .swiOutOfRange }) ∧
      (s.RunsNext (.part (.micro (.routerCall n))) →
        step s = .fault (.swiOutOfRange
          { r.2 with lines := s.lines.tail, outcome := .faulted .swiOutOfRange })))

/-- R161: with the table in place (R78), whatever `MEM` is otherwise, for call numbers 0 to 0x2B step 4 goes to
`H_CALL[n]`. -/
def Obligations.RouterResolvesToHandler : Prop :=
  ∀ (s : State) (n : Fin 44), ImageInPlace s → s.mode?.isSome = true →
    s.RunsNext (.part (.micro (.routerCall (BitVec.ofNat 8 n.val)))) →
      callSlot s.params (BitVec.ofNat 8 n.val) = s.params.callTableBase + 4 * BitVec.ofNat 32 n.val ∧
      ∃ t, step s = .next t ∧ t.pc = s.params.hCall[n]

/-- R158, ROUTER_RESUME with a call in progress, in System mode and in any other mode that a handler may have returned in:
the latch goes to that mode's r14, the frame is popped by one read of `MEM`, the status word and `PC` of the caller are
restored, all in one step (D19, D23). Where the popped word names no mode the same writes are performed and the fault is
marked (R125; D16). From User mode ENTER_MODE is refused (R121; D18), after the lines before it (log 16); without a mode
r14 faults (log 17); with no call in progress it faults. -/
def Obligations.RouterResumeReturns : Prop :=
  ∀ s : State,
    (s.rtrActive = false →
      exec .routerResume s = .fault (.resumeWithoutRouter { s with outcome := .faulted .resumeWithoutRouter })) ∧
    (s.OrdinaryMem → s.load4 s.r13.svc = (s.wordAt s.r13.svc, s)) ∧
    (s.rtrActive = true → s.mode? = none →
      exec .routerResume s = .fault (.invalidModeField { s with outcome := .faulted .invalidModeField })) ∧
    (s.rtrActive = true → s.mode? = some .usr → exec .routerResume s = .refused (.enterModeFromUser
      { s with r14 := s.r14.set .usr s.rtrLrSave, rtrActive := false, outcome := .refused .enterModeFromUser })) ∧
    ∀ m, s.rtrActive = true → s.mode? = some m → m ≠ .usr →
      ((Psr.mode? (s.load4 s.r13.svc).1).isSome = true →
        ∃ t, exec .routerResume s = .next t ∧ FrameReturned m s t ∧ (m = .sys → t.pc = s.r14.svc)) ∧
      (Psr.mode? (s.load4 s.r13.svc).1 = none →
        ∃ t, exec .routerResume s = .fault (.invalidModeField t) ∧
          FrameReturned m { s with outcome := .faulted .invalidModeField } t)

/-! ### The call handlers -/

/-- R183, R184, R187 to R228: each of the 42 placeholders is `pc <- x[14]` and nothing else, every byte of memory and every
register among the rest (D26, D39); a firmware step pending where it is presented: log 9. -/
def Obligations.PlaceholderReturnsAtOnce : Prop :=
  ∀ (s : State) (m : Mode), s.mode? = some m →
    ∀ i ∈ placeholderCalls, ∃ t, exec i s = .next t ∧ TransferredTo s t (s.r14.get m.bank)

/-- R229: the Debug call writes r0 to the four bytes at `DIAG_ADDR` by one write to `MEM`, and no other register or flag but
`PC` (D27); in ordinary memory they hold it little-endian and every other byte is as before; a firmware step pending where
it is presented: log 9. -/
def Obligations.DebugWritesDiagnosticWord : Prop :=
  ∀ (s : State) (m : Mode), s.mode? = some m →
    ∃ t, exec .callDebug s = .next t ∧
      TransferredTo (s.store4 s.params.diagAddr s.gpr[0]) t (s.r14.get m.bank) ∧
      (s.OrdinaryMem → s.memWf = true → t.freeCount = s.freeCount ∧ t.wordAt s.params.diagAddr = s.gpr[0] ∧
        ∀ c : Word, 4 ≤ (c - s.params.diagAddr).toNat → t.byteAt c = s.byteAt c)

/-- R186, R240, R241: call 0x00 starts the sequencer; its step S1 sets IRQ mode, the IRQ stack pointer and a zero saved
status word, leaves every other bit and register, and S2 is next (D28, D47; log 23). -/
def Obligations.SoftResetStartsWithS1 : Prop :=
  ∀ s : State, (∃ m, s.mode? = some m ∧ m ≠ .usr) →
    ∃ t, exec .callSoftReset s = .next t ∧ t.mode? = some .irq ∧ (∀ j, 5 ≤ j → t.cpsr.getLsbD j = s.cpsr.getLsbD j) ∧
      t = { s with cpsr := t.cpsr, r13 := s.r13.set .irq s.params.spIrq, spsr := s.spsr.set .irq 0,
                   pending := t.pending } ∧
      t.nextStep? = some .seqS2

/-! ### The sequencer -/

/-- R245: S5 zeroes r0 to r12 in System mode; FIQ's private r8 to r12, r13, r14, r15 and everything else stay. -/
def Obligations.S5ZeroesRegisters : Prop :=
  ∀ s : State, s.RunsNext (.part (.micro .seqS5)) → s.mode? = some .sys →
    ∃ t, step s = .next t ∧
      t = { s with gpr := Vector.replicate 13 0, pending := t.pending, lines := s.lines.tail } ∧
      t.nextStep? = some .seqS6

/-- R247, R42, R43: from any firmware entry of the sequencer, in any mode but User, with the lines low, six steps end in
System mode with the registers of R42 written and those of R43 as they were, whatever `MEM` is; in ordinary memory the
clear range is zero, every other byte is as before, and the flag byte selects the entry (D28, D29, D31, D32, D34). -/
def Obligations.SoftResetPostcondition : Prop :=
  ∀ s : State, s.RunsAtPc → s.lines = [] → Psr.t s.cpsr = false →
    (s.selected = .part .sequencer ∨ s.selected = .instr .callSoftReset) → (∃ m, s.mode? = some m ∧ m ≠ .usr) →
    ∃ t, runFor 6 s = .next t ∧ t.mode? = some .sys ∧ (∀ j, 5 ≤ j → t.cpsr.getLsbD j = s.cpsr.getLsbD j) ∧
      (t.pc = s.params.romEntry ∨ t.pc = s.params.ramEntry) ∧
      t = { s with
              cpsr := t.cpsr, gpr := Vector.replicate 13 0, pc := t.pc,
              r13 := ((s.r13.set .irq s.params.spIrq).set .svc s.params.spSvc).set .usr s.params.spSys,
              spsr := (s.spsr.set .irq 0).set .svc 0, mem := t.mem, freeCount := t.freeCount,
              rtrActive := false, pending := [] } ∧
      (s.OrdinaryMem → s.memWf = true → t.freeCount = s.freeCount ∧
        (∀ c : Word, t.byteAt c =
          if (c - s.params.wramClearBase).toNat < 0x200 then 0 else s.byteAt c) ∧
        t.pc = (if t.byteAt s.params.entryFlagAddr = 0 then s.params.romEntry else s.params.ramEntry))

/-- R249: run again from the same entry, the sequencer ends in exactly the same state, ordinary memory among the rest (the narrowed
reading of 90 C5). -/
def Obligations.SoftResetIdempotent : Prop :=
  ∀ s t : State, s.RunsAtPc → s.lines = [] → Psr.t s.cpsr = false → s.OrdinaryMem → s.memWf = true →
    (s.selected = .part .sequencer ∨ s.selected = .instr .callSoftReset) →
    runFor 6 s = .next t → runFor 6 { t with pc := s.pc } = .next t

/-- R248: where the flag byte lies in the clear range, for ordinary memory the sequencer always ends at the ROM entry
(D28). -/
def Obligations.FlagInClearRangeSelectsRom : Prop :=
  ∀ s t : State, s.RunsAtPc → s.lines = [] → Psr.t s.cpsr = false → s.OrdinaryMem → s.memWf = true →
    (s.selected = .part .sequencer ∨ s.selected = .instr .callSoftReset) →
    (s.params.entryFlagAddr - s.params.wramClearBase).toNat < 0x200 →
    runFor 6 s = .next t → t.pc = s.params.romEntry

/-! ### A whole routed call -/

/-- R162 for the placeholders: an SWI in guest code, the slot branch, the router's four steps, the handler and step 5 (eight
steps, the lines low) leave exactly what R162 lists: `R14[svc]`, `SPSR[svc]`, the frame's four bytes, `PC`, `rtr_lr_save`
(D19, D20, D23, D26), and no numbered step pending that was not (log 9). The premises are ordinary memory (R62),
the image (R78), and the frame apart from the instruction and its table slot. -/
def Obligations.RoutedPlaceholderNetEffect : Prop :=
  ∀ (s : State) (n : Fin 44) (immHi : BitVec 16), 0 < n.val → n.val < 0x2B →
    s.OrdinaryMem → s.Inv → s.requests = [] → s.lines = [] → Psr.t s.cpsr = false → s.nextStep? = none →
    s.rtrActive = false →
    Params.Dispatches s.params → ImageInPlace s → firmwareAt s.params s.pc = none → s.pc.extractLsb' 0 2 = 0 →
    s.wordAt s.pc = swiWord 0xE (immHi ++ BitVec.ofNat 8 n.val) →
    wordsApart (s.r13.svc - 4) s.pc → wordsApart (s.r13.svc - 4) (callSlot s.params (BitVec.ofNat 8 n.val)) →
    ∃ t, runFor 8 s = .next t ∧ t.r14 = s.r14.set .svc (s.pc + 4) ∧ t.spsr = s.spsr.set .svc s.cpsr ∧
      t.pc = s.pc + 4 ∧ t.rtrLrSave = s.r14.usr ∧
      t.wordAt (s.r13.svc - 4) = s.cpsr ∧
      (∀ c : Word, 4 ≤ (c - (s.r13.svc - 4)).toNat → t.byteAt c = s.byteAt c) ∧
      t = { s with r14 := t.r14, spsr := t.spsr, pc := t.pc, rtrLrSave := t.rtrLrSave, mem := t.mem,
                   pending := t.pending } ∧
      ∀ e ∈ t.pending, e ∈ s.pending

/-- R162 and R229 for the Debug call (PYR's second scenario, 95 S7): the same, and the word at `DIAG_ADDR` is r0
(D19, D20, D23, D27; ordinary memory, `DIAG_ADDR` apart from the frame). -/
def Obligations.RoutedDebugNetEffect : Prop :=
  ∀ (s : State) (immHi : BitVec 16),
    s.OrdinaryMem → s.Inv → s.requests = [] → s.lines = [] → Psr.t s.cpsr = false → s.nextStep? = none →
    s.rtrActive = false →
    Params.Dispatches s.params → ImageInPlace s → firmwareAt s.params s.pc = none → s.pc.extractLsb' 0 2 = 0 →
    s.wordAt s.pc = swiWord 0xE (immHi ++ 0x2B#8) →
    wordsApart (s.r13.svc - 4) s.pc → wordsApart (s.r13.svc - 4) (callSlot s.params 0x2B) →
    wordsApart (s.r13.svc - 4) s.params.diagAddr →
    ∃ t, runFor 8 s = .next t ∧ t.r14 = s.r14.set .svc (s.pc + 4) ∧ t.spsr = s.spsr.set .svc s.cpsr ∧
      t.pc = s.pc + 4 ∧ t.rtrLrSave = s.r14.usr ∧
      t.wordAt (s.r13.svc - 4) = s.cpsr ∧ t.wordAt s.params.diagAddr = s.gpr[0] ∧
      (∀ c : Word, 4 ≤ (c - (s.r13.svc - 4)).toNat → 4 ≤ (c - s.params.diagAddr).toNat →
        t.byteAt c = s.byteAt c) ∧
      t = { s with r14 := t.r14, spsr := t.spsr, pc := t.pc, rtrLrSave := t.rtrLrSave, mem := t.mem,
                   pending := t.pending } ∧
      ∀ e ∈ t.pending, e ∈ s.pending

/-! ### The whole machine -/

/-- Every step keeps the invariant: no mark, a mode field that names a mode (R21), memory in canonical form. -/
def Obligations.StepKeepsInvariant : Prop :=
  ∀ s t : State, s.Inv → step s = .next t → t.Inv

/-- The invariant holds at reset. -/
def Obligations.InvariantAtReset : Prop := State.reset.Inv

/-- R38: the descriptors' addresses, the call table's place and every other parameter are configuration, not state: no step
changes them. -/
def Obligations.ParametersNeverChange : Prop :=
  ∀ s t : State, step s = .next t → t.params = s.params

/-- R297: "User mode can be left only by a trap": a step out of User mode is a trap entry, `PC` at that kind's vector, the
mode its entry mode, IRQ disabled. -/
def Obligations.UserModeLeftOnlyByTrap : Prop :=
  ∀ s t : State, s.mode? = some .usr → step s = .next t → t.mode? ≠ some .usr →
    ∃ k : TrapKind, t.pc = vectorAddress s.params k ∧ EntryStatusWord k s.cpsr t.cpsr

/-- R65: in ordinary memory (R62) only these steps store: the router's push, the Debug call, the sequencer's S3, each what
the rule says and where; and an open handler body may. Whatever else `MEM` is, only a step that asks something of it (R65's
list, the executor's fetch, an open body) can change its contents. -/
def Obligations.MemoryWrittenOnlyAsListed : Prop :=
  ∀ s t : State, step s = .next t →
    (s.OrdinaryMem → t.mem = s.mem ∨
      (s.RunsNext (.part .router) ∧ t.mem = Memory.write4 s.unlisted s.mem (s.r13.svc - 4) s.spsr.svc) ∨
      (s.RunsInstr .callDebug ∧ t.mem = Memory.write4 s.unlisted s.mem s.params.diagAddr s.gpr[0]) ∨
      (s.RunsNext (.part (.micro .seqS3)) ∧
        t.mem = Memory.clear s.unlisted s.mem s.params.wramClearBase 0x200) ∨
      ∃ k, s.RunsNext (.part (.body k))) ∧
    (t.mem ≠ s.mem → s.MakesAccess)

/-- R32: the block computes no flag: after a step N, Z, C and V are what they were, or those of a saved status word that a
return has loaded, or what WRITE_CPSR was given. -/
def Obligations.FlagsAreOnlyMoved : Prop :=
  ∀ s t : State, step s = .next t → Psr.nzcv t.cpsr = Psr.nzcv s.cpsr ∨ (∃ b, t.cpsr = t.spsr.get b) ∨
    ∃ q qs v control rest, s.requests = q :: qs ∧ decode q = .ok (.writeCpsr v true control, rest) ∧
      Psr.nzcv t.cpsr = Psr.nzcv v

/-- R35: the router's latches are written only by its call (R156), its step 5 (R158) and the sequencer's S6 (R246). A step
that changes `rtr_lr_save` or sets `rtr_active` is the call: it sets `rtr_active`, leaves `ROUTER_RET` as the link and
keeps the old link in the latch. A step that clears `rtr_active` is step 5 or S6. -/
def Obligations.LatchesWrittenOnlyByRouter : Prop :=
  ∀ s t : State, step s = .next t →
    (t.rtrLrSave ≠ s.rtrLrSave ∨ (s.rtrActive = false ∧ t.rtrActive = true) →
      (∃ n, s.RunsNext (.part (.micro (.routerCall n))) ∨ s.RunsInstr (.callOutOfRange n)) ∧ t.rtrActive = true ∧
      ∃ m, s.mode? = some m ∧ t.rtrLrSave = s.r14.get m.bank ∧ t.r14 = s.r14.set m.bank s.params.routerRet) ∧
    (s.rtrActive = true → t.rtrActive = false →
      s.RunsInstr .routerResume ∨ s.RunsNext (.part (.micro .seqS6)))
end

