-- ==== Sys2Proof/Laws/Memory.lean ====
section
/-! SUPPORT. Memory: reads after writes, and every operation keeps the canonical form. -/

namespace Sys2Proof.Machine

namespace Memory

variable {u : Nat → Byte}

theorem wfFrom_cons {lo a : Nat} {v : Byte} {rest : List Host.Cell} :
    wfFrom u lo ((a, v) :: rest) = true ↔
      lo ≤ a ∧ a < 2 ^ 32 ∧ v ≠ u a ∧ wfFrom u (a + 1) rest = true := by
  simp [wfFrom, and_assoc]

theorem wfFrom_mono {lo lo' : Nat} {m : List Host.Cell} (h : wfFrom u lo m = true) (hl : lo' ≤ lo) :
    wfFrom u lo' m = true := by
  cases m with
  | nil => rfl
  | cons c rest =>
    obtain ⟨a, v⟩ := c
    rw [wfFrom_cons] at h ⊢
    exact ⟨hl.trans h.1, h.2⟩

/-- Below the first listed address every byte reads as an unlisted one. -/
theorem read_of_lt {m : List Host.Cell} : ∀ {lo a : Nat}, wfFrom u lo m = true → a < lo → read u m a = u a := by
  induction m with
  | nil => intros; rfl
  | cons c rest ih =>
    obtain ⟨b, v⟩ := c
    intro lo a h ha
    rw [wfFrom_cons] at h
    have hab : a ≠ b := by omega
    simp only [read, if_neg hab]
    exact ih h.2.2.2 (by omega)

theorem wfFrom_write {m : List Host.Cell} {a : Nat} {v : Byte} (ha : a < 2 ^ 32) :
    ∀ {lo : Nat}, wfFrom u lo m = true → lo ≤ a → wfFrom u lo (write u m a v) = true := by
  induction m with
  | nil =>
    intro lo _ hl
    by_cases hv : v = u a
    · simp [write, hv, wfFrom]
    · simp only [write, if_neg hv, wfFrom_cons]
      exact ⟨hl, ha, hv, rfl⟩
  | cons c rest ih =>
    obtain ⟨b, w⟩ := c
    intro lo h hl
    have h' := wfFrom_cons.mp h
    simp only [write]
    split
    · split
      · exact h
      · rename_i hab hv
        exact wfFrom_cons.mpr ⟨hl, ha, hv, wfFrom_cons.mpr ⟨hab, h'.2⟩⟩
    · split
      · split
        · exact wfFrom_mono h'.2.2.2 (by omega)
        · rename_i hab hv
          subst hab
          exact wfFrom_cons.mpr ⟨hl, ha, hv, h'.2.2.2⟩
      · exact wfFrom_cons.mpr ⟨h'.1, h'.2.1, h'.2.2.1, ih h'.2.2.2 (by omega)⟩

/-- A read after a write (R62), in canonical memory. -/
theorem read_write_from {m : List Host.Cell} {a c : Nat} {v : Byte} :
    ∀ {lo : Nat}, wfFrom u lo m = true → read u (write u m a v) c = if c = a then v else read u m c := by
  induction m with
  | nil =>
    intro lo _
    by_cases hv : v = u a
    · simp +contextual [write, hv, read]
    · simp [write, hv, read]
  | cons d rest ih =>
    obtain ⟨b, w⟩ := d
    intro lo h
    have h' := wfFrom_cons.mp h
    simp only [write]
    split
    · rename_i hab
      split
      · rename_i hv
        by_cases hca : c = a
        · subst hca
          rw [if_pos rfl, hv]
          exact read_of_lt (lo := b) (wfFrom_cons.mpr ⟨le_refl b, h'.2⟩) hab
        · rw [if_neg hca]
      · simp only [read]
    · rename_i hab
      split
      · rename_i hEq
        subst hEq
        split
        · rename_i hv
          by_cases hca : c = a
          · subst hca
            rw [if_pos rfl, hv]
            exact read_of_lt h'.2.2.2 (by omega)
          · simp only [read, if_neg hca]
        · by_cases hca : c = a
          · simp only [read, if_pos hca]
          · simp only [read, if_neg hca]
      · rename_i hne
        by_cases hcb : c = b
        · subst hcb
          simp [read, Ne.symm hne]
        · simp only [read, if_neg hcb]
          exact ih h'.2.2.2

theorem wf_write {m : List Host.Cell} {a : Nat} {v : Byte} (h : wf u m = true) (ha : a < 2 ^ 32) :
    wf u (write u m a v) = true :=
  wfFrom_write ha h (Nat.zero_le a)

theorem read_write {m : List Host.Cell} {a c : Nat} {v : Byte} (h : wf u m = true) :
    read u (write u m a v) c = if c = a then v else read u m c :=
  read_write_from h

theorem wf_write1 {m : List Host.Cell} {a : Word} {v : Byte} (h : wf u m = true) : wf u (write1 u m a v) = true :=
  wf_write h a.isLt

theorem read1_write1 {m : List Host.Cell} {a c : Word} {v : Byte} (h : wf u m = true) :
    read1 u (write1 u m a v) c = if c = a then v else read1 u m c := by
  simp only [read1, write1, read_write h, BitVec.toNat_inj]

theorem wf_write4 {m : List Host.Cell} {a v : Word} (h : wf u m = true) : wf u (write4 u m a v) = true :=
  wf_write1 (wf_write1 (wf_write1 (wf_write1 h)))

/-- A byte after a word is written: the word's byte inside the four addresses, the old byte outside. -/
theorem read1_write4 {m : List Host.Cell} {a c v : Word} (h : wf u m = true) :
    read1 u (write4 u m a v) c =
      if c = a + 3 then v.extractLsb' 24 8 else if c = a + 2 then v.extractLsb' 16 8
      else if c = a + 1 then v.extractLsb' 8 8 else if c = a then v.extractLsb' 0 8 else read1 u m c := by
  simp only [write4, read1_write1 (wf_write1 (wf_write1 (wf_write1 h))), read1_write1 (wf_write1 (wf_write1 h)),
    read1_write1 (wf_write1 h), read1_write1 h]

/-- A byte outside the four written ones. -/
theorem read1_write4_apart {m : List Host.Cell} {a c v : Word} (h : wf u m = true) (hc : 4 ≤ (c - a).toNat) :
    read1 u (write4 u m a v) c = read1 u m c := by
  rw [read1_write4 h, if_neg (by bv_omega), if_neg (by bv_omega), if_neg (by bv_omega), if_neg (by bv_omega)]

theorem wordOfBytes_bytes (v : Word) :
    wordOfBytes (v.extractLsb' 0 8) (v.extractLsb' 8 8) (v.extractLsb' 16 8) (v.extractLsb' 24 8) = v := by
  apply BitVec.eq_of_getLsbD_eq
  intro i hi
  simp only [wordOfBytes, BitVec.getLsbD_append, BitVec.getLsbD_extractLsb']
  by_cases h1 : i < 8
  · simp [h1]
  · by_cases h2 : i < 16
    · simp [h1, show i - 8 < 8 by omega, show 8 + (i - 8) = i by omega]
    · by_cases h3 : i < 24
      · simp [h1, show ¬ i - 8 < 8 by omega, show i - 8 - 8 < 8 by omega, show 16 + (i - 8 - 8) = i by omega]
      · simp [h1, show ¬ i - 8 < 8 by omega, show ¬ i - 8 - 8 < 8 by omega, show i - 8 - 8 - 8 < 8 by omega,
          show 24 + (i - 8 - 8 - 8) = i by omega]

/-- A word read back where it was written (R62, R63). -/
theorem read4_write4 {m : List Host.Cell} {a v : Word} (h : wf u m = true) : read4 u (write4 u m a v) a = v := by
  have h1 : a + 1 ≠ a + 3 := by bv_omega
  have h2 : a + 1 ≠ a + 2 := by bv_omega
  have h3 : a + 2 ≠ a + 3 := by bv_omega
  have h4 : a ≠ a + 3 := by bv_omega
  have h5 : a ≠ a + 2 := by bv_omega
  have h6 : a ≠ a + 1 := by bv_omega
  simp only [read4, read1_write4 h, if_neg h1, if_neg h2, if_neg h3, if_neg h4, if_neg h5, if_neg h6, if_pos]
  exact wordOfBytes_bytes v

theorem wf_clear (n : Nat) : ∀ {m : List Host.Cell} {a : Word}, wf u m = true → wf u (clear u m a n) = true := by
  induction n with
  | zero => intro m a h; exact h
  | succ n ih => intro m a h; exact ih (wf_write1 h)

/-- A byte after a clear: 0 inside the range, the old byte outside (R243). -/
theorem read1_clear (n : Nat) : ∀ {m : List Host.Cell} {a c : Word}, wf u m = true → n ≤ 2 ^ 32 →
    read1 u (clear u m a n) c = if (c - a).toNat < n then 0 else read1 u m c := by
  induction n with
  | zero => intro m a c _ _; simp [clear]
  | succ n ih =>
    intro m a c h hn
    simp only [clear, ih (wf_write1 h) (by omega), read1_write1 h]
    by_cases hca : c = a
    · subst hca; simp
    · have : (c - a).toNat < n + 1 ↔ (c - (a + 1)).toNat < n := by bv_omega
      simp only [if_neg hca, this]

theorem wf_ofCells_from (l : List Host.Cell) : ∀ {m : List Host.Cell}, wf u m = true →
    wf u (l.foldl (fun m c => write u m (c.1 % 2 ^ 32) c.2) m) = true := by
  induction l with
  | nil => intro m h; exact h
  | cons c rest ih => intro m h; exact ih (wf_write h (Nat.mod_lt _ (by decide)))

theorem wf_ofCells (l : List Host.Cell) : wf u (ofCells u l) = true := wf_ofCells_from l rfl

end Memory

end Sys2Proof.Machine
end

