-- ==== Sys2Proof/Laws/Psr.lean ====
section
/-! SUPPORT. The fields of a status word after each change the spec makes to one. -/

namespace Sys2Proof.Machine

theorem modeOfField_enc (m : Mode) : modeOfField m.enc = some m := by cases m <;> decide

theorem enc_of_modeOfField {f : BitVec 5} {m : Mode} (h : modeOfField f = some m) : f = m.enc := by
  have key : ∀ f : BitVec 5, ∀ m : Mode, modeOfField f = some m → f = m.enc := by
    intro f m
    cases m <;> revert f <;> decide
  exact key f m h

namespace Psr

theorem field_withMode (w : Word) (m : Mode) : field (withMode w m) = m.enc := by
  apply BitVec.eq_of_getLsbD_eq
  intro i hi
  have h : ∀ i : Fin 5, (0xFFFFFFE0 : Word).getLsbD i.val = false := by decide
  have hb := h ⟨i, hi⟩
  simp only at hb
  simp only [field, withMode, BitVec.getLsbD_extractLsb', BitVec.getLsbD_or, BitVec.getLsbD_and,
    BitVec.getLsbD_setWidth, Nat.zero_add, hb, hi, show i < 32 by omega, decide_true, Bool.true_and,
    Bool.and_false, Bool.false_or]

theorem mode?_withMode (w : Word) (m : Mode) : mode? (withMode w m) = some m := by
  rw [mode?, field_withMode, modeOfField_enc]

/-- Every bit above the mode field passes through (R121). -/
theorem getLsbD_withMode (w : Word) (m : Mode) (i : Nat) (h : 5 ≤ i) :
    (withMode w m).getLsbD i = w.getLsbD i := by
  by_cases hi : i < 32
  · have h1 : ∀ i : Fin 32, 5 ≤ i.val → (0xFFFFFFE0#32).getLsbD i.val = true := by decide
    have h2 : m.enc.getLsbD i = false := BitVec.getLsbD_of_ge _ _ h
    simp [withMode, h1 ⟨i, hi⟩ h, h2]
  · rw [BitVec.getLsbD_of_ge _ _ (by omega), BitVec.getLsbD_of_ge _ _ (by omega)]

theorem field_clearT (w : Word) : field (clearT w) = field w := by
  apply BitVec.eq_of_getLsbD_eq
  intro i hi
  have h : ∀ i : Fin 5, (0xFFFFFFDF#32).getLsbD i.val = true := by decide
  simp [field, clearT, hi, h ⟨i, hi⟩]

theorem field_setI (w : Word) : field (setI w) = field w := by
  apply BitVec.eq_of_getLsbD_eq
  intro i hi
  have h : ∀ i : Fin 5, (0x80#32).getLsbD i.val = false := by decide
  simp [field, setI, hi, h ⟨i, hi⟩]

theorem field_setF (w : Word) : field (setF w) = field w := by
  apply BitVec.eq_of_getLsbD_eq
  intro i hi
  have h : ∀ i : Fin 5, (0x40#32).getLsbD i.val = false := by decide
  simp [field, setF, hi, h ⟨i, hi⟩]

theorem mode?_clearT (w : Word) : mode? (clearT w) = mode? w := by rw [mode?, field_clearT, mode?]

theorem getLsbD_and_mask {c : Word} {n : Nat} (hc : ∀ i : Fin 32, n ≤ i.val → c.getLsbD i.val = true) (w : Word)
    {j : Nat} (h : n ≤ j) : (w &&& c).getLsbD j = w.getLsbD j := by
  by_cases hj : j < 32
  · simp [hc ⟨j, hj⟩ h]
  · rw [BitVec.getLsbD_of_ge _ _ (by omega), BitVec.getLsbD_of_ge _ _ (by omega)]

theorem getLsbD_or_mask {c : Word} {n : Nat} (hc : ∀ i : Fin 32, n ≤ i.val → c.getLsbD i.val = false) (w : Word)
    {j : Nat} (h : n ≤ j) : (w ||| c).getLsbD j = w.getLsbD j := by
  by_cases hj : j < 32
  · simp [hc ⟨j, hj⟩ h]
  · rw [BitVec.getLsbD_of_ge _ _ (by omega), BitVec.getLsbD_of_ge _ _ (by omega)]

theorem getLsbD_clearT (w : Word) {j : Nat} (h : 6 ≤ j) : (clearT w).getLsbD j = w.getLsbD j :=
  getLsbD_and_mask (n := 6) (by decide) w h

theorem getLsbD_setI (w : Word) {j : Nat} (h : 8 ≤ j) : (setI w).getLsbD j = w.getLsbD j :=
  getLsbD_or_mask (n := 8) (by decide) w h

theorem getLsbD_setF (w : Word) {j : Nat} (h : 7 ≤ j) : (setF w).getLsbD j = w.getLsbD j :=
  getLsbD_or_mask (n := 7) (by decide) w h

/-- N, Z, C and V follow the bits from 28 up. -/
theorem nzcv_congr {w w' : Word} (h : ∀ j, 28 ≤ j → w'.getLsbD j = w.getLsbD j) : nzcv w' = nzcv w := by
  apply BitVec.eq_of_getLsbD_eq
  intro i hi
  simp only [nzcv, BitVec.getLsbD_extractLsb', hi, decide_true, Bool.true_and]
  exact h _ (by omega)

end Psr

theorem field_entryStatus (k : TrapKind) (m : Mode) (w : Word) : Psr.field (entryStatus k m w) = m.enc := by
  unfold entryStatus
  split <;> simp [Psr.field_setF, Psr.field_setI, Psr.field_clearT, Psr.field_withMode]

/-- After a trap entry the mode is the entry mode, whatever it was (R267). -/
theorem mode?_entryStatus (k : TrapKind) (m : Mode) (w : Word) : Psr.mode? (entryStatus k m w) = some m := by
  rw [Psr.mode?, field_entryStatus, modeOfField_enc]

/-- Bits 31:8 pass through a trap entry (R267). -/
theorem getLsbD_entryStatus (k : TrapKind) (m : Mode) (w : Word) {j : Nat} (h : 8 ≤ j) :
    (entryStatus k m w).getLsbD j = w.getLsbD j := by
  simp only [entryStatus]
  split
  · rw [Psr.getLsbD_setF _ (by omega), Psr.getLsbD_setI _ h, Psr.getLsbD_clearT _ (by omega),
      Psr.getLsbD_withMode _ _ _ (by omega)]
  · rw [Psr.getLsbD_setI _ h, Psr.getLsbD_clearT _ (by omega), Psr.getLsbD_withMode _ _ _ (by omega)]

theorem t_entryStatus (k : TrapKind) (m : Mode) (w : Word) : Psr.t (entryStatus k m w) = false := by
  cases k <;> simp [entryStatus, Psr.t, Psr.setF, Psr.setI, Psr.clearT]

theorem i_entryStatus (k : TrapKind) (m : Mode) (w : Word) : Psr.i (entryStatus k m w) = true := by
  cases k <;> simp [entryStatus, Psr.i, Psr.setF, Psr.setI, Psr.clearT]

/-- In User mode WRITE_CPSR leaves the mode field (R129). -/
theorem mode?_writtenStatus_usr (w v : Word) (flags control : Bool) :
    Psr.mode? (writtenStatus .usr w v flags control) = Psr.mode? w := by
  have hf : Psr.field (writtenStatus .usr w v flags control) = Psr.field w := by
    apply BitVec.eq_of_getLsbD_eq
    intro i hi
    have h : ∀ i : Fin 5, (0x0FFFFFFF : Word).getLsbD i.val = true ∧ (0xF0000000 : Word).getLsbD i.val = false := by
      decide
    have := h ⟨i, hi⟩
    cases flags <;> simp_all [writtenStatus, Psr.field, Psr.writeFlags]
  rw [Psr.mode?, hf, Psr.mode?]

end Sys2Proof.Machine
end

