-- ==== Sys2Proof/Laws/State.lean ====
section
/-! SUPPORT. One lemma per field per update of State, and the banked cells read after a write. -/

namespace Sys2Proof.Machine

/-! ### Banked cells -/

@[simp] theorem PerBank.get_set_same {α : Type} (r : PerBank α) (b : Bank) (v : α) : (r.set b v).get b = v := by
  cases b <;> rfl

theorem PerBank.get_set_other {α : Type} (r : PerBank α) {b c : Bank} (h : c ≠ b) (v : α) :
    (r.set b v).get c = r.get c := by
  cases b <;> cases c <;> first | rfl | exact absurd rfl h

@[simp] theorem PerSpsr.get_set_same {α : Type} (r : PerSpsr α) (b : SpsrBank) (v : α) : (r.set b v).get b = v := by
  cases b <;> rfl

theorem PerSpsr.get_set_other {α : Type} (r : PerSpsr α) {b c : SpsrBank} (h : c ≠ b) (v : α) :
    (r.set b v).get c = r.get c := by
  cases b <;> cases c <;> first | rfl | exact absurd rfl h

@[simp] theorem PerSpsr.set_set {α : Type} (r : PerSpsr α) (b : SpsrBank) (v w : α) :
    (r.set b v).set b w = r.set b w := by cases b <;> rfl

@[simp] theorem PerSpsr.set_get {α : Type} (r : PerSpsr α) (b : SpsrBank) : r.set b (r.get b) = r := by
  cases b <;> rfl

/-! ### `PC` written (R28) -/

@[simp] theorem State.setPc_gpr (s : State) (v : Word) : (s.setPc v).gpr = s.gpr := rfl
@[simp] theorem State.setPc_fiqHi (s : State) (v : Word) : (s.setPc v).fiqHi = s.fiqHi := rfl
@[simp] theorem State.setPc_r13 (s : State) (v : Word) : (s.setPc v).r13 = s.r13 := rfl
@[simp] theorem State.setPc_r14 (s : State) (v : Word) : (s.setPc v).r14 = s.r14 := rfl
@[simp] theorem State.setPc_pc (s : State) (v : Word) : (s.setPc v).pc = v := rfl
@[simp] theorem State.setPc_cpsr (s : State) (v : Word) : (s.setPc v).cpsr = s.cpsr := rfl
@[simp] theorem State.setPc_spsr (s : State) (v : Word) : (s.setPc v).spsr = s.spsr := rfl
@[simp] theorem State.setPc_rtrActive (s : State) (v : Word) : (s.setPc v).rtrActive = s.rtrActive := rfl
@[simp] theorem State.setPc_rtrLrSave (s : State) (v : Word) : (s.setPc v).rtrLrSave = s.rtrLrSave := rfl
@[simp] theorem State.setPc_outcome (s : State) (v : Word) : (s.setPc v).outcome = s.outcome := rfl
@[simp] theorem State.setPc_mem (s : State) (v : Word) : (s.setPc v).mem = s.mem := rfl
@[simp] theorem State.setPc_params (s : State) (v : Word) : (s.setPc v).params = s.params := rfl
@[simp] theorem State.setPc_pending (s : State) (v : Word) : (s.setPc v).pending =
      if v = s.pc then s.pending else Pending.dropAt s.pending { s.position with pc := v } := rfl
@[simp] theorem State.setPc_requests (s : State) (v : Word) : (s.setPc v).requests = s.requests := rfl
@[simp] theorem State.setPc_lines (s : State) (v : Word) : (s.setPc v).lines = s.lines := rfl
@[simp] theorem State.setPc_reply (s : State) (v : Word) : (s.setPc v).reply = s.reply := rfl
@[simp] theorem State.setPc_freeCount (s : State) (v : Word) : (s.setPc v).freeCount = s.freeCount := rfl

/-! ### The numbered firmware step that is next (log 9) -/

/-- Where the firmware starts, no numbered step is next. -/
@[simp] theorem Pending.find?_dropAt (l : List Pending) (p : Position) :
    ((Pending.dropAt l p).find? fun e => e.position = p) = none :=
  List.find?_eq_none.mpr fun _ he heq =>
    of_decide_eq_true (List.mem_filter.mp he).2 (of_decide_eq_true heq)

/-- What starts at one position leaves what is next at another. -/
theorem Pending.find?_dropAt_other {l : List Pending} {p q : Position} (h : q ≠ p) :
    ((Pending.dropAt l p).find? fun e => e.position = q) = l.find? fun e => e.position = q := by
  rw [Pending.dropAt, List.find?_filter]
  congr 1; funext e
  by_cases he : e.position = q
  · simp [he, h]
  · simp [he]

/-- Nothing is pending after that was not before. -/
theorem Pending.mem_of_mem_dropAt {l : List Pending} {p : Position} {e : Pending} (h : e ∈ Pending.dropAt l p) : e ∈ l :=
  List.mem_of_mem_filter h

/-- The numbered step that follows is next. -/
@[simp] theorem State.followedBy_nextStep? (t s : State) (m : MicroStep) : (t.followedBy s m).nextStep? = some m := by
  show ((t.followedBy s m).pending.find? fun e => e.position = t.position).map _ = _
  simp [State.followedBy]

@[simp] theorem State.followedBy_position (t s : State) (m : MicroStep) : (t.followedBy s m).position = t.position := rfl
@[simp] theorem State.followedBy_pending (t s : State) (m : MicroStep) :
    (t.followedBy s m).pending = ⟨t.position, m⟩ :: Pending.dropAt s.otherPending t.position := rfl
@[simp] theorem State.followedBy_gpr (t s : State) (m : MicroStep) : (t.followedBy s m).gpr = t.gpr := rfl
@[simp] theorem State.followedBy_fiqHi (t s : State) (m : MicroStep) : (t.followedBy s m).fiqHi = t.fiqHi := rfl
@[simp] theorem State.followedBy_r13 (t s : State) (m : MicroStep) : (t.followedBy s m).r13 = t.r13 := rfl
@[simp] theorem State.followedBy_r14 (t s : State) (m : MicroStep) : (t.followedBy s m).r14 = t.r14 := rfl
@[simp] theorem State.followedBy_pc (t s : State) (m : MicroStep) : (t.followedBy s m).pc = t.pc := rfl
@[simp] theorem State.followedBy_cpsr (t s : State) (m : MicroStep) : (t.followedBy s m).cpsr = t.cpsr := rfl
@[simp] theorem State.followedBy_spsr (t s : State) (m : MicroStep) : (t.followedBy s m).spsr = t.spsr := rfl
@[simp] theorem State.followedBy_rtrActive (t s : State) (m : MicroStep) : (t.followedBy s m).rtrActive = t.rtrActive := rfl
@[simp] theorem State.followedBy_rtrLrSave (t s : State) (m : MicroStep) : (t.followedBy s m).rtrLrSave = t.rtrLrSave := rfl
@[simp] theorem State.followedBy_outcome (t s : State) (m : MicroStep) : (t.followedBy s m).outcome = t.outcome := rfl
@[simp] theorem State.followedBy_mem (t s : State) (m : MicroStep) : (t.followedBy s m).mem = t.mem := rfl
@[simp] theorem State.followedBy_params (t s : State) (m : MicroStep) : (t.followedBy s m).params = t.params := rfl
@[simp] theorem State.followedBy_requests (t s : State) (m : MicroStep) : (t.followedBy s m).requests = t.requests := rfl
@[simp] theorem State.followedBy_lines (t s : State) (m : MicroStep) : (t.followedBy s m).lines = t.lines := rfl
@[simp] theorem State.followedBy_reply (t s : State) (m : MicroStep) : (t.followedBy s m).reply = t.reply := rfl
@[simp] theorem State.followedBy_freeCount (t s : State) (m : MicroStep) : (t.followedBy s m).freeCount = t.freeCount := rfl

/-- What stands at v starts. -/
@[simp] theorem State.endedAt_nextStep? (t s : State) (v : Word) : (t.endedAt s v).nextStep? = none :=
  Option.map_eq_none_iff.mpr (Pending.find?_dropAt _ _)

@[simp] theorem State.endedAt_pending (t s : State) (v : Word) :
    (t.endedAt s v).pending = Pending.dropAt s.otherPending { t.position with pc := v } := rfl
@[simp] theorem State.endedAt_pc (t s : State) (v : Word) : (t.endedAt s v).pc = v := rfl
@[simp] theorem State.endedAt_gpr (t s : State) (v : Word) : (t.endedAt s v).gpr = t.gpr := rfl
@[simp] theorem State.endedAt_fiqHi (t s : State) (v : Word) : (t.endedAt s v).fiqHi = t.fiqHi := rfl
@[simp] theorem State.endedAt_r13 (t s : State) (v : Word) : (t.endedAt s v).r13 = t.r13 := rfl
@[simp] theorem State.endedAt_r14 (t s : State) (v : Word) : (t.endedAt s v).r14 = t.r14 := rfl
@[simp] theorem State.endedAt_cpsr (t s : State) (v : Word) : (t.endedAt s v).cpsr = t.cpsr := rfl
@[simp] theorem State.endedAt_spsr (t s : State) (v : Word) : (t.endedAt s v).spsr = t.spsr := rfl
@[simp] theorem State.endedAt_rtrActive (t s : State) (v : Word) : (t.endedAt s v).rtrActive = t.rtrActive := rfl
@[simp] theorem State.endedAt_rtrLrSave (t s : State) (v : Word) : (t.endedAt s v).rtrLrSave = t.rtrLrSave := rfl
@[simp] theorem State.endedAt_outcome (t s : State) (v : Word) : (t.endedAt s v).outcome = t.outcome := rfl
@[simp] theorem State.endedAt_mem (t s : State) (v : Word) : (t.endedAt s v).mem = t.mem := rfl
@[simp] theorem State.endedAt_params (t s : State) (v : Word) : (t.endedAt s v).params = t.params := rfl
@[simp] theorem State.endedAt_requests (t s : State) (v : Word) : (t.endedAt s v).requests = t.requests := rfl
@[simp] theorem State.endedAt_lines (t s : State) (v : Word) : (t.endedAt s v).lines = t.lines := rfl
@[simp] theorem State.endedAt_reply (t s : State) (v : Word) : (t.endedAt s v).reply = t.reply := rfl
@[simp] theorem State.endedAt_freeCount (t s : State) (v : Word) : (t.endedAt s v).freeCount = t.freeCount := rfl

/-- A state with nothing pending has no numbered step next. -/
@[simp] theorem State.nextStep?_of_nil {s : State} (h : s.pending = []) : s.nextStep? = none := by
  simp [State.nextStep?, h]

/-- The same position with the same entries pending has the same step next: the position's cells choose it. -/
theorem State.nextStep?_congr {s t : State} (hp : t.position = s.position) (h : t.pending = s.pending) :
    t.nextStep? = s.nextStep? := by rw [State.nextStep?, State.nextStep?, hp, h]

/-- After a transfer to another address what stands there starts. -/
theorem State.setPc_nextStep? {s : State} {v : Word} (h : v ≠ s.pc) : (s.setPc v).nextStep? = none := by
  show ((s.setPc v).pending.find? fun e => e.position = { s.position with pc := v }).map _ = _
  rw [State.setPc_pending, if_neg h, Pending.find?_dropAt]; rfl

/-- Writing the value `PC` already holds changes nothing. -/
@[simp] theorem State.setPc_pc_self (s : State) : s.setPc s.pc = s := by simp [State.setPc]

/-! ### A boundary sample used up (R285) -/

@[simp] theorem State.sampled_gpr (s : State) : (s.sampled).gpr = s.gpr := rfl
@[simp] theorem State.sampled_fiqHi (s : State) : (s.sampled).fiqHi = s.fiqHi := rfl
@[simp] theorem State.sampled_r13 (s : State) : (s.sampled).r13 = s.r13 := rfl
@[simp] theorem State.sampled_r14 (s : State) : (s.sampled).r14 = s.r14 := rfl
@[simp] theorem State.sampled_pc (s : State) : (s.sampled).pc = s.pc := rfl
@[simp] theorem State.sampled_cpsr (s : State) : (s.sampled).cpsr = s.cpsr := rfl
@[simp] theorem State.sampled_spsr (s : State) : (s.sampled).spsr = s.spsr := rfl
@[simp] theorem State.sampled_rtrActive (s : State) : (s.sampled).rtrActive = s.rtrActive := rfl
@[simp] theorem State.sampled_rtrLrSave (s : State) : (s.sampled).rtrLrSave = s.rtrLrSave := rfl
@[simp] theorem State.sampled_outcome (s : State) : (s.sampled).outcome = s.outcome := rfl
@[simp] theorem State.sampled_mem (s : State) : (s.sampled).mem = s.mem := rfl
@[simp] theorem State.sampled_params (s : State) : (s.sampled).params = s.params := rfl
@[simp] theorem State.sampled_pending (s : State) : (s.sampled).pending = s.pending := rfl
@[simp] theorem State.sampled_position (s : State) : s.sampled.position = s.position := rfl
@[simp] theorem State.sampled_nextStep? (s : State) : s.sampled.nextStep? = s.nextStep? := rfl
@[simp] theorem State.sampled_otherPending (s : State) : s.sampled.otherPending = s.otherPending := rfl
@[simp] theorem State.sampled_requests (s : State) : (s.sampled).requests = s.requests := rfl
@[simp] theorem State.sampled_lines (s : State) : (s.sampled).lines = s.lines.tail := rfl
@[simp] theorem State.sampled_reply (s : State) : (s.sampled).reply = s.reply := rfl
@[simp] theorem State.sampled_freeCount (s : State) : (s.sampled).freeCount = s.freeCount := rfl

/-! ### A trap taken (R267) -/

@[simp] theorem State.enterTrap_gpr (s : State) (k : TrapKind) (a : Word) : (s.enterTrap k a).gpr = s.gpr := rfl
@[simp] theorem State.enterTrap_fiqHi (s : State) (k : TrapKind) (a : Word) : (s.enterTrap k a).fiqHi = s.fiqHi := rfl
@[simp] theorem State.enterTrap_r13 (s : State) (k : TrapKind) (a : Word) : (s.enterTrap k a).r13 = s.r13 := rfl
@[simp] theorem State.enterTrap_r14 (s : State) (k : TrapKind) (a : Word) : (s.enterTrap k a).r14 = 
      s.r14.set k.entryBank.bank
        (if k = .reset then Config.anyWord s.freeCount else linkValue k a (Psr.t s.cpsr)) := rfl
@[simp] theorem State.enterTrap_pc (s : State) (k : TrapKind) (a : Word) : (s.enterTrap k a).pc = vectorAddress s.params k := rfl
@[simp] theorem State.enterTrap_cpsr (s : State) (k : TrapKind) (a : Word) : (s.enterTrap k a).cpsr = entryStatus k k.entryMode s.cpsr := rfl
@[simp] theorem State.enterTrap_spsr (s : State) (k : TrapKind) (a : Word) : (s.enterTrap k a).spsr = 
      s.spsr.set k.entryBank (if k = .reset then Config.anyWord (s.freeCount + 1) else s.cpsr) := rfl
@[simp] theorem State.enterTrap_rtrActive (s : State) (k : TrapKind) (a : Word) : (s.enterTrap k a).rtrActive = s.rtrActive := rfl
@[simp] theorem State.enterTrap_rtrLrSave (s : State) (k : TrapKind) (a : Word) : (s.enterTrap k a).rtrLrSave = s.rtrLrSave := rfl
@[simp] theorem State.enterTrap_outcome (s : State) (k : TrapKind) (a : Word) : (s.enterTrap k a).outcome = s.outcome := rfl
@[simp] theorem State.enterTrap_mem (s : State) (k : TrapKind) (a : Word) : (s.enterTrap k a).mem = s.mem := rfl
@[simp] theorem State.enterTrap_params (s : State) (k : TrapKind) (a : Word) : (s.enterTrap k a).params = s.params := rfl
@[simp] theorem State.enterTrap_pending (s : State) (k : TrapKind) (a : Word) : (s.enterTrap k a).pending =
      if k = .reset then [] else Pending.dropAt s.pending (s.enterTrap k a).position := rfl
@[simp] theorem State.enterTrap_requests (s : State) (k : TrapKind) (a : Word) : (s.enterTrap k a).requests = s.requests := rfl
@[simp] theorem State.enterTrap_lines (s : State) (k : TrapKind) (a : Word) : (s.enterTrap k a).lines = s.lines := rfl
@[simp] theorem State.enterTrap_reply (s : State) (k : TrapKind) (a : Word) : (s.enterTrap k a).reply = s.reply := rfl
@[simp] theorem State.enterTrap_freeCount (s : State) (k : TrapKind) (a : Word) : (s.enterTrap k a).freeCount = 
      if k = .reset then s.freeCount + 2 else s.freeCount := rfl

/-- After a trap entry what stands at the vector starts. -/
@[simp] theorem State.enterTrap_nextStep? (s : State) (k : TrapKind) (a : Word) : (s.enterTrap k a).nextStep? = none := by
  rw [State.nextStep?, State.enterTrap_pending]
  split
  · rfl
  · exact Option.map_eq_none_iff.mpr (Pending.find?_dropAt _ _)

/-! ### A handler body run (R290) -/

@[simp] theorem State.handlerBody_gpr (s : State) (k : TrapKind) : (s.handlerBody k).gpr = (Config.handlerBody k s).gpr := rfl
@[simp] theorem State.handlerBody_fiqHi (s : State) (k : TrapKind) : (s.handlerBody k).fiqHi = (Config.handlerBody k s).fiqHi := rfl
@[simp] theorem State.handlerBody_r13 (s : State) (k : TrapKind) : (s.handlerBody k).r13 = (Config.handlerBody k s).r13 := rfl
@[simp] theorem State.handlerBody_r14 (s : State) (k : TrapKind) : (s.handlerBody k).r14 = (Config.handlerBody k s).r14 := rfl
@[simp] theorem State.handlerBody_pc (s : State) (k : TrapKind) : (s.handlerBody k).pc = s.pc := rfl
@[simp] theorem State.handlerBody_cpsr (s : State) (k : TrapKind) : (s.handlerBody k).cpsr = s.cpsr := rfl
@[simp] theorem State.handlerBody_spsr (s : State) (k : TrapKind) : (s.handlerBody k).spsr = (Config.handlerBody k s).spsr := rfl
@[simp] theorem State.handlerBody_rtrActive (s : State) (k : TrapKind) : (s.handlerBody k).rtrActive = s.rtrActive := rfl
@[simp] theorem State.handlerBody_rtrLrSave (s : State) (k : TrapKind) : (s.handlerBody k).rtrLrSave = s.rtrLrSave := rfl
@[simp] theorem State.handlerBody_outcome (s : State) (k : TrapKind) : (s.handlerBody k).outcome = s.outcome := rfl
@[simp] theorem State.handlerBody_mem (s : State) (k : TrapKind) : (s.handlerBody k).mem = 
      Memory.ofCells s.unlisted (Config.handlerBody k s).mem := rfl
@[simp] theorem State.handlerBody_params (s : State) (k : TrapKind) : (s.handlerBody k).params = s.params := rfl
@[simp] theorem State.handlerBody_pending (s : State) (k : TrapKind) : (s.handlerBody k).pending = s.pending := rfl
@[simp] theorem State.handlerBody_requests (s : State) (k : TrapKind) : (s.handlerBody k).requests = s.requests := rfl
@[simp] theorem State.handlerBody_lines (s : State) (k : TrapKind) : (s.handlerBody k).lines = s.lines := rfl
@[simp] theorem State.handlerBody_reply (s : State) (k : TrapKind) : (s.handlerBody k).reply = s.reply := rfl
@[simp] theorem State.handlerBody_freeCount (s : State) (k : TrapKind) : (s.handlerBody k).freeCount = s.freeCount + 1 := rfl

/-! ### An access to `MEM` (R62): nothing but the contents and the counter of free values can change -/

/-- t is s but for the contents of `MEM` and the counter of free values. -/
def State.SameButMem (s t : State) : Prop := t = { s with mem := t.mem, freeCount := t.freeCount }

theorem State.load1_same (s : State) (a : Word) : s.SameButMem (s.load1 a).2 := by
  unfold State.load1; split <;> rfl

theorem State.load4_same (s : State) (a : Word) : s.SameButMem (s.load4 a).2 := by
  unfold State.load4; split <;> rfl

theorem State.store1_same (s : State) (a : Word) (v : Byte) : s.SameButMem (s.store1 a v) := by
  unfold State.store1; split <;> rfl

theorem State.store4_same (s : State) (a v : Word) : s.SameButMem (s.store4 a v) := by
  unfold State.store4; split <;> rfl

theorem State.SameButMem.trans {s t u : State} (h : s.SameButMem t) (h' : t.SameButMem u) : s.SameButMem u := by
  rw [State.SameButMem, h] at h'; exact h'

theorem State.clear_same (n : Nat) : ∀ (s : State) (a : Word), s.SameButMem (s.clear a n) := by
  induction n with
  | zero => intro s a; rfl
  | succ n ih => intro s a; exact (s.store1_same a 0).trans (ih _ _)

@[simp] theorem State.load1_snd_gpr (s : State) (a : Word) : (s.load1 a).2.gpr = s.gpr := by rw [s.load1_same a]
@[simp] theorem State.load1_snd_fiqHi (s : State) (a : Word) : (s.load1 a).2.fiqHi = s.fiqHi := by rw [s.load1_same a]
@[simp] theorem State.load1_snd_r13 (s : State) (a : Word) : (s.load1 a).2.r13 = s.r13 := by rw [s.load1_same a]
@[simp] theorem State.load1_snd_r14 (s : State) (a : Word) : (s.load1 a).2.r14 = s.r14 := by rw [s.load1_same a]
@[simp] theorem State.load1_snd_pc (s : State) (a : Word) : (s.load1 a).2.pc = s.pc := by rw [s.load1_same a]
@[simp] theorem State.load1_snd_cpsr (s : State) (a : Word) : (s.load1 a).2.cpsr = s.cpsr := by rw [s.load1_same a]
@[simp] theorem State.load1_snd_spsr (s : State) (a : Word) : (s.load1 a).2.spsr = s.spsr := by rw [s.load1_same a]
@[simp] theorem State.load1_snd_rtrActive (s : State) (a : Word) : (s.load1 a).2.rtrActive = s.rtrActive := by rw [s.load1_same a]
@[simp] theorem State.load1_snd_rtrLrSave (s : State) (a : Word) : (s.load1 a).2.rtrLrSave = s.rtrLrSave := by rw [s.load1_same a]
@[simp] theorem State.load1_snd_outcome (s : State) (a : Word) : (s.load1 a).2.outcome = s.outcome := by rw [s.load1_same a]
@[simp] theorem State.load1_snd_params (s : State) (a : Word) : (s.load1 a).2.params = s.params := by rw [s.load1_same a]
@[simp] theorem State.load1_snd_pending (s : State) (a : Word) : (s.load1 a).2.pending = s.pending := by rw [s.load1_same a]
@[simp] theorem State.load1_snd_requests (s : State) (a : Word) : (s.load1 a).2.requests = s.requests := by rw [s.load1_same a]
@[simp] theorem State.load1_snd_lines (s : State) (a : Word) : (s.load1 a).2.lines = s.lines := by rw [s.load1_same a]
@[simp] theorem State.load1_snd_reply (s : State) (a : Word) : (s.load1 a).2.reply = s.reply := by rw [s.load1_same a]

@[simp] theorem State.load4_snd_gpr (s : State) (a : Word) : (s.load4 a).2.gpr = s.gpr := by rw [s.load4_same a]
@[simp] theorem State.load4_snd_fiqHi (s : State) (a : Word) : (s.load4 a).2.fiqHi = s.fiqHi := by rw [s.load4_same a]
@[simp] theorem State.load4_snd_r13 (s : State) (a : Word) : (s.load4 a).2.r13 = s.r13 := by rw [s.load4_same a]
@[simp] theorem State.load4_snd_r14 (s : State) (a : Word) : (s.load4 a).2.r14 = s.r14 := by rw [s.load4_same a]
@[simp] theorem State.load4_snd_pc (s : State) (a : Word) : (s.load4 a).2.pc = s.pc := by rw [s.load4_same a]
@[simp] theorem State.load4_snd_cpsr (s : State) (a : Word) : (s.load4 a).2.cpsr = s.cpsr := by rw [s.load4_same a]
@[simp] theorem State.load4_snd_spsr (s : State) (a : Word) : (s.load4 a).2.spsr = s.spsr := by rw [s.load4_same a]
@[simp] theorem State.load4_snd_rtrActive (s : State) (a : Word) : (s.load4 a).2.rtrActive = s.rtrActive := by rw [s.load4_same a]
@[simp] theorem State.load4_snd_rtrLrSave (s : State) (a : Word) : (s.load4 a).2.rtrLrSave = s.rtrLrSave := by rw [s.load4_same a]
@[simp] theorem State.load4_snd_outcome (s : State) (a : Word) : (s.load4 a).2.outcome = s.outcome := by rw [s.load4_same a]
@[simp] theorem State.load4_snd_params (s : State) (a : Word) : (s.load4 a).2.params = s.params := by rw [s.load4_same a]
@[simp] theorem State.load4_snd_pending (s : State) (a : Word) : (s.load4 a).2.pending = s.pending := by rw [s.load4_same a]
@[simp] theorem State.load4_snd_requests (s : State) (a : Word) : (s.load4 a).2.requests = s.requests := by rw [s.load4_same a]
@[simp] theorem State.load4_snd_lines (s : State) (a : Word) : (s.load4 a).2.lines = s.lines := by rw [s.load4_same a]
@[simp] theorem State.load4_snd_reply (s : State) (a : Word) : (s.load4 a).2.reply = s.reply := by rw [s.load4_same a]

@[simp] theorem State.store1_gpr (s : State) (a : Word) (v : Byte) : (s.store1 a v).gpr = s.gpr := by rw [s.store1_same a v]
@[simp] theorem State.store1_fiqHi (s : State) (a : Word) (v : Byte) : (s.store1 a v).fiqHi = s.fiqHi := by rw [s.store1_same a v]
@[simp] theorem State.store1_r13 (s : State) (a : Word) (v : Byte) : (s.store1 a v).r13 = s.r13 := by rw [s.store1_same a v]
@[simp] theorem State.store1_r14 (s : State) (a : Word) (v : Byte) : (s.store1 a v).r14 = s.r14 := by rw [s.store1_same a v]
@[simp] theorem State.store1_pc (s : State) (a : Word) (v : Byte) : (s.store1 a v).pc = s.pc := by rw [s.store1_same a v]
@[simp] theorem State.store1_cpsr (s : State) (a : Word) (v : Byte) : (s.store1 a v).cpsr = s.cpsr := by rw [s.store1_same a v]
@[simp] theorem State.store1_spsr (s : State) (a : Word) (v : Byte) : (s.store1 a v).spsr = s.spsr := by rw [s.store1_same a v]
@[simp] theorem State.store1_rtrActive (s : State) (a : Word) (v : Byte) : (s.store1 a v).rtrActive = s.rtrActive := by rw [s.store1_same a v]
@[simp] theorem State.store1_rtrLrSave (s : State) (a : Word) (v : Byte) : (s.store1 a v).rtrLrSave = s.rtrLrSave := by rw [s.store1_same a v]
@[simp] theorem State.store1_outcome (s : State) (a : Word) (v : Byte) : (s.store1 a v).outcome = s.outcome := by rw [s.store1_same a v]
@[simp] theorem State.store1_params (s : State) (a : Word) (v : Byte) : (s.store1 a v).params = s.params := by rw [s.store1_same a v]
@[simp] theorem State.store1_pending (s : State) (a : Word) (v : Byte) : (s.store1 a v).pending = s.pending := by rw [s.store1_same a v]
@[simp] theorem State.store1_requests (s : State) (a : Word) (v : Byte) : (s.store1 a v).requests = s.requests := by rw [s.store1_same a v]
@[simp] theorem State.store1_lines (s : State) (a : Word) (v : Byte) : (s.store1 a v).lines = s.lines := by rw [s.store1_same a v]
@[simp] theorem State.store1_reply (s : State) (a : Word) (v : Byte) : (s.store1 a v).reply = s.reply := by rw [s.store1_same a v]

@[simp] theorem State.store4_gpr (s : State) (a v : Word) : (s.store4 a v).gpr = s.gpr := by rw [s.store4_same a v]
@[simp] theorem State.store4_fiqHi (s : State) (a v : Word) : (s.store4 a v).fiqHi = s.fiqHi := by rw [s.store4_same a v]
@[simp] theorem State.store4_r13 (s : State) (a v : Word) : (s.store4 a v).r13 = s.r13 := by rw [s.store4_same a v]
@[simp] theorem State.store4_r14 (s : State) (a v : Word) : (s.store4 a v).r14 = s.r14 := by rw [s.store4_same a v]
@[simp] theorem State.store4_pc (s : State) (a v : Word) : (s.store4 a v).pc = s.pc := by rw [s.store4_same a v]
@[simp] theorem State.store4_cpsr (s : State) (a v : Word) : (s.store4 a v).cpsr = s.cpsr := by rw [s.store4_same a v]
@[simp] theorem State.store4_spsr (s : State) (a v : Word) : (s.store4 a v).spsr = s.spsr := by rw [s.store4_same a v]
@[simp] theorem State.store4_rtrActive (s : State) (a v : Word) : (s.store4 a v).rtrActive = s.rtrActive := by rw [s.store4_same a v]
@[simp] theorem State.store4_rtrLrSave (s : State) (a v : Word) : (s.store4 a v).rtrLrSave = s.rtrLrSave := by rw [s.store4_same a v]
@[simp] theorem State.store4_outcome (s : State) (a v : Word) : (s.store4 a v).outcome = s.outcome := by rw [s.store4_same a v]
@[simp] theorem State.store4_params (s : State) (a v : Word) : (s.store4 a v).params = s.params := by rw [s.store4_same a v]
@[simp] theorem State.store4_pending (s : State) (a v : Word) : (s.store4 a v).pending = s.pending := by rw [s.store4_same a v]
@[simp] theorem State.store4_requests (s : State) (a v : Word) : (s.store4 a v).requests = s.requests := by rw [s.store4_same a v]
@[simp] theorem State.store4_lines (s : State) (a v : Word) : (s.store4 a v).lines = s.lines := by rw [s.store4_same a v]
@[simp] theorem State.store4_reply (s : State) (a v : Word) : (s.store4 a v).reply = s.reply := by rw [s.store4_same a v]

@[simp] theorem State.clear_gpr (s : State) (a : Word) (n : Nat) : (s.clear a n).gpr = s.gpr := by rw [State.clear_same n s a]
@[simp] theorem State.clear_fiqHi (s : State) (a : Word) (n : Nat) : (s.clear a n).fiqHi = s.fiqHi := by rw [State.clear_same n s a]
@[simp] theorem State.clear_r13 (s : State) (a : Word) (n : Nat) : (s.clear a n).r13 = s.r13 := by rw [State.clear_same n s a]
@[simp] theorem State.clear_r14 (s : State) (a : Word) (n : Nat) : (s.clear a n).r14 = s.r14 := by rw [State.clear_same n s a]
@[simp] theorem State.clear_pc (s : State) (a : Word) (n : Nat) : (s.clear a n).pc = s.pc := by rw [State.clear_same n s a]
@[simp] theorem State.clear_cpsr (s : State) (a : Word) (n : Nat) : (s.clear a n).cpsr = s.cpsr := by rw [State.clear_same n s a]
@[simp] theorem State.clear_spsr (s : State) (a : Word) (n : Nat) : (s.clear a n).spsr = s.spsr := by rw [State.clear_same n s a]
@[simp] theorem State.clear_rtrActive (s : State) (a : Word) (n : Nat) : (s.clear a n).rtrActive = s.rtrActive := by rw [State.clear_same n s a]
@[simp] theorem State.clear_rtrLrSave (s : State) (a : Word) (n : Nat) : (s.clear a n).rtrLrSave = s.rtrLrSave := by rw [State.clear_same n s a]
@[simp] theorem State.clear_outcome (s : State) (a : Word) (n : Nat) : (s.clear a n).outcome = s.outcome := by rw [State.clear_same n s a]
@[simp] theorem State.clear_params (s : State) (a : Word) (n : Nat) : (s.clear a n).params = s.params := by rw [State.clear_same n s a]
@[simp] theorem State.clear_pending (s : State) (a : Word) (n : Nat) : (s.clear a n).pending = s.pending := by rw [State.clear_same n s a]
@[simp] theorem State.clear_requests (s : State) (a : Word) (n : Nat) : (s.clear a n).requests = s.requests := by rw [State.clear_same n s a]
@[simp] theorem State.clear_lines (s : State) (a : Word) (n : Nat) : (s.clear a n).lines = s.lines := by rw [State.clear_same n s a]
@[simp] theorem State.clear_reply (s : State) (a : Word) (n : Nat) : (s.clear a n).reply = s.reply := by rw [State.clear_same n s a]

end Sys2Proof.Machine
end

