-- ==== Sys2Proof/Laws/Ops.lean ====
section
/-! SUPPORT. For each shared operation, once, what it can do when it answers a next state; and that the operations
keep memory's canonical form. -/

namespace Sys2Proof.Machine

/-! ### Stops -/

theorem faultWith_ne_next (s t : State) (r : FaultReason) : s.faultWith r ≠ .next t := by
  cases r <;> exact fun h => by simp [State.faultWith] at h

theorem refuseWith_ne_next (s t : State) (r : RefuseReason) : s.refuseWith r ≠ .next t := by
  cases r <;> exact fun h => by simp [State.refuseWith] at h

theorem andThen_next {r : Result} {f : State → Result} {t : State} (h : andThen r f = .next t) :
    ∃ u, r = .next u ∧ f u = .next t := by
  cases r with
  | next u => exact ⟨u, rfl, h⟩
  | fault e => simp [andThen] at h
  | refused e => simp [andThen] at h

theorem next_inj {s t : State} (h : (Host.Outcome.next s : Result) = .next t) : s = t :=
  Host.Outcome.next.inj h

/-! ### Mode change and the two directions of a trap -/

theorem enterMode_next {s t : State} {m : Mode} (h : s.enterMode m = .next t) :
    (∃ m', s.mode? = some m' ∧ m' ≠ .usr) ∧ t = { s with cpsr := Psr.withMode s.cpsr m } := by
  unfold State.enterMode at h
  split at h
  · exact absurd h (faultWith_ne_next _ _ _)
  · exact absurd h (refuseWith_ne_next _ _ _)
  · rename_i m' hne hm
    exact ⟨⟨m', hm, fun he => hne (by rw [← he])⟩, (next_inj h).symm⟩

theorem enterMode_of_mode {s : State} {m m' : Mode} (h : s.mode? = some m') (hne : m' ≠ .usr) :
    s.enterMode m = .next { s with cpsr := Psr.withMode s.cpsr m } := by
  unfold State.enterMode
  rw [h]
  cases m' <;> first | rfl | exact absurd rfl hne

/-- After a trap entry the mode is the entry mode (R267). -/
@[simp] theorem enterTrap_mode? (s : State) (k : TrapKind) (a : Word) :
    (s.enterTrap k a).mode? = some k.entryMode := mode?_entryStatus _ _ _

theorem returnFrom_next {s t : State} {b : SpsrBank} {adj : Adjustment} (h : s.returnFrom b adj = .next t) :
    t = { s with cpsr := s.spsr.get b, pc := s.r14.get b.bank + adj.word } ∧
      (Psr.mode? (s.spsr.get b)).isSome = true := by
  simp only [State.returnFrom] at h
  split at h
  · rename_i hm
    exact ⟨(next_inj h).symm, hm⟩
  · exact absurd h (faultWith_ne_next _ _ _)

theorem restoreStatus_next {s t : State} {m : Mode} {adj : Adjustment} (h : s.restoreStatus m adj = .next t) :
    ∃ b, m.spsrBank? = some b ∧ s.mode? = some m ∧ s.returnFrom b adj = .next t := by
  unfold State.restoreStatus at h
  split at h
  · exact absurd h (faultWith_ne_next _ _ _)
  · rename_i b hb
    split at h
    · rename_i hm
      exact ⟨b, hb, hm, h⟩
    · exact absurd h (faultWith_ne_next _ _ _)

theorem excReturn_next {s t : State} {k : TrapKind} (h : s.excReturn k = .next t) :
    ∃ adj, k.adjustment? = some adj ∧ s.restoreStatus k.entryMode adj = .next t := by
  unfold State.excReturn at h
  split at h
  · exact absurd h (refuseWith_ne_next _ _ _)
  · rename_i adj ha
    exact ⟨adj, ha, h⟩

theorem returnWord_next {s t : State} {adj : Adjustment} (h : s.returnWord adj = .next t) :
    ∃ m, s.mode? = some m ∧ s.restoreStatus m adj = .next t := by
  unfold State.returnWord at h
  split at h
  · exact absurd h (faultWith_ne_next _ _ _)
  · rename_i m hm
    exact ⟨m, hm, h⟩

theorem spsrBank_entryMode (k : TrapKind) : k.entryMode.spsrBank? = some k.entryBank := by cases k <;> rfl

theorem atBoundary_cases (s : State) (a : Word) :
    (∃ k, (k = .fiq ∨ k = .irq) ∧ s.interruptNow = some k ∧ s.atBoundary a = s.sampled.enterTrap k a) ∨
      (s.interruptNow = none ∧ s.atBoundary a = s.sampled) := by
  unfold State.atBoundary
  cases h : s.interruptNow with
  | none => exact .inr ⟨rfl, rfl⟩
  | some k =>
    refine .inl ⟨k, ?_, rfl, rfl⟩
    unfold State.interruptNow at h
    repeat' split at h
    all_goals simp_all

/-! ### Register view, calls and memory -/

theorem x_13 (s : State) : s.x 13 = s.mode?.map fun m => s.r13.get m.bank := rfl

theorem x_14 (s : State) : s.x 14 = s.mode?.map fun m => s.r14.get m.bank := rfl

theorem x_15 (s : State) : s.x 15 = some s.pc := rfl

theorem setX_13 (s : State) (v : Word) :
    s.setX 13 v = s.mode?.map fun m => { s with r13 := s.r13.set m.bank v } := rfl

theorem setX_14 (s : State) (v : Word) :
    s.setX 14 v = s.mode?.map fun m => { s with r14 := s.r14.set m.bank v } := rfl

theorem setX_15 (s : State) (v : Word) : s.setX 15 v = some { s with pc := v } := rfl

theorem setX_next {s t : State} {i : Fin 16} {v : Word} (h : s.setX i v = some t) :
    t = { s with gpr := t.gpr, fiqHi := t.fiqHi, r13 := t.r13, r14 := t.r14, pc := t.pc } := by
  unfold State.setX at h
  repeat' split at h
  all_goals
    first
      | (cases Option.some.inj h; rfl)
      | (obtain ⟨m, -, rfl⟩ := Option.map_eq_some_iff.mp h; rfl)

theorem subroutineReturn_next {s t : State} (h : s.subroutineReturn = .next t) :
    ∃ lr, s.x 14 = some lr ∧ t = s.setPc lr := by
  unfold State.subroutineReturn at h
  split at h
  · exact absurd h (faultWith_ne_next _ _ _)
  · rename_i lr hx
    exact ⟨lr, hx, (next_inj h).symm⟩

/-! ### `MEM` (R62) -/

theorem load1_ordinary {s : State} (h : s.params.memory ≠ .other) (a : Word) : s.load1 a = (s.byteAt a, s) := by
  unfold State.load1; split <;> simp_all

theorem load4_ordinary {s : State} (h : s.params.memory ≠ .other) (a : Word) : s.load4 a = (s.wordAt a, s) := by
  unfold State.load4; split <;> simp_all

theorem store1_ordinary {s : State} (h : s.params.memory ≠ .other) (a : Word) (v : Byte) :
    s.store1 a v = { s with mem := Memory.write1 s.unlisted s.mem a v } := by
  unfold State.store1; split <;> simp_all

theorem store4_ordinary {s : State} (h : s.params.memory ≠ .other) (a v : Word) :
    s.store4 a v = { s with mem := Memory.write4 s.unlisted s.mem a v } := by
  unfold State.store4; split <;> simp_all

theorem clear_ordinary (n : Nat) : ∀ {s : State} (_ : s.params.memory ≠ .other) (a : Word),
    s.clear a n = { s with mem := Memory.clear s.unlisted s.mem a n } := by
  induction n with
  | zero => intro s _ a; rfl
  | succ n ih =>
    intro s h a
    rw [State.clear, ih (by simpa using h), store1_ordinary h]
    rfl

theorem accessed_memWf (s : State) (c : List Host.Cell) : (s.accessed c).memWf = true := Memory.wf_ofCells c

/-- A load looks only at the parameters, the contents and the counter. -/
theorem load4_congr {s t : State} (hp : t.params = s.params) (hm : t.mem = s.mem) (hf : t.freeCount = s.freeCount)
    (a : Word) : (t.load4 a).1 = (s.load4 a).1 ∧ (t.load4 a).2.mem = (s.load4 a).2.mem ∧
      (t.load4 a).2.freeCount = (s.load4 a).2.freeCount := by
  unfold State.load4
  rw [hp]
  cases s.params.memory <;>
    simp [State.wordAt, State.accessed, State.unlisted, hp, hm, hf]

/-- Every access keeps the canonical form. -/
theorem load1_memWf {s : State} (h : s.memWf = true) (a : Word) : (s.load1 a).2.memWf = true := by
  unfold State.load1; split
  · exact h
  · exact accessed_memWf _ _

theorem load4_memWf {s : State} (h : s.memWf = true) (a : Word) : (s.load4 a).2.memWf = true := by
  unfold State.load4; split
  · exact h
  · exact accessed_memWf _ _

theorem store1_memWf {s : State} (h : s.memWf = true) (a : Word) (v : Byte) : (s.store1 a v).memWf = true := by
  unfold State.store1; split
  · exact Memory.wf_write1 h
  · exact accessed_memWf _ _

theorem store4_memWf {s : State} (h : s.memWf = true) (a v : Word) : (s.store4 a v).memWf = true := by
  unfold State.store4; split
  · exact Memory.wf_write4 h
  · exact accessed_memWf _ _

theorem clear_memWf (n : Nat) : ∀ {s : State} (_ : s.memWf = true) (a : Word), (s.clear a n).memWf = true := by
  induction n with
  | zero => intro s h a; exact h
  | succ n ih => intro s h a; exact ih (store1_memWf h a 0) _

/-! ### The router -/

theorem routerStart_next {s t : State} (h : s.routerStart = .next t) :
    s.mode? = some .svc ∧ s.rtrActive = false ∧ Psr.t s.spsr.svc = false ∧
      t = State.followedBy { s.store4 (s.r13.svc - 4) s.spsr.svc with r13 := s.r13.set .svc (s.r13.svc - 4) }
            s .routerRead := by
  unfold State.routerStart at h
  split at h
  · exact absurd h (faultWith_ne_next _ _ _)
  · rename_i hm
    split at h
    · exact absurd h (faultWith_ne_next _ _ _)
    · rename_i ha
      split at h
      · exact absurd h (refuseWith_ne_next _ _ _)
      · rename_i ht
        exact ⟨not_not.mp hm, by simpa using ha, by simpa using ht, (next_inj h).symm⟩

theorem routerRead_next {s t : State} (h : s.routerRead = .next t) :
    t = (s.load4 (s.r14.svc - 4)).2.followedBy s (.routerMode ((s.load4 (s.r14.svc - 4)).1.extractLsb' 0 8)) :=
  (next_inj h).symm

theorem routerCall_next {s t : State} {n : Byte} (h : s.routerCall n = .next t) :
    ∃ m, s.mode? = some m ∧
      t = State.endedAt { (s.load4 (callSlot s.params n)).2 with
              rtrLrSave := s.r14.get m.bank, r14 := s.r14.set m.bank s.params.routerRet, rtrActive := true }
            s (s.load4 (callSlot s.params n)).1 := by
  simp only [State.routerCall] at h
  split at h
  · exact absurd h (faultWith_ne_next _ _ _)
  · split at h
    · rename_i lr u hx hu
      rw [x_14] at hx
      rw [setX_14] at hu
      have hm : (s.load4 (callSlot s.params n)).2.mode? = s.mode? := by simp [State.mode?]
      obtain ⟨m, hm', rfl⟩ := Option.map_eq_some_iff.mp hx
      obtain ⟨m', hm'', rfl⟩ := Option.map_eq_some_iff.mp hu
      cases Option.some.inj (hm'.symm.trans hm'')
      refine ⟨m, hm ▸ hm', ?_⟩
      rw [← next_inj h]
      simp
    · exact absurd h (faultWith_ne_next _ _ _)

theorem routerResume_next {s t : State} (h : execRouterResume s = .next t) :
    s.rtrActive = true ∧ ∃ u v, s.setX 14 s.rtrLrSave = some u ∧
      State.enterMode { u with rtrActive := false } .svc = .next v ∧ v.routerPop = .next t := by
  unfold execRouterResume at h
  split at h
  · exact absurd h (faultWith_ne_next _ _ _)
  · rename_i ha
    split at h
    · exact absurd h (faultWith_ne_next _ _ _)
    · rename_i u hu
      obtain ⟨v, hv, hp⟩ := andThen_next h
      exact ⟨by simpa using ha, u, v, hu, hv, hp⟩

theorem routerPop_next {s t : State} (h : s.routerPop = .next t) :
    State.excReturn { (s.load4 s.r13.svc).2 with
      spsr := s.spsr.set .svc (s.load4 s.r13.svc).1, r13 := s.r13.set .svc (s.r13.svc + 4) } .swi = .next t := h

end Sys2Proof.Machine
end

