-- ==== Sys2Proof/Laws/PerInstr.lean ====
section
/-! SUPPORT. Statements about an instruction as syntax, one lemma per constructor. -/

namespace Sys2Proof.Laws.EncodeForm

/-- The encoding of an instruction is its format's code (R91: one byte, or the four of an ARM32 word) followed by its
operand words: one for a trap request, none for a return or a call number, at most two for an internal operation. -/
def Statement (i : Instr) : Prop :=
  match (encode i).format with
  | .arm32 => (encode i).bytes.length = 4
  | .trapKind => (encode i).bytes.length = 5
  | .retKind | .callNum => (encode i).bytes.length = 1
  | .uop => (encode i).bytes.length = 1 ∨ (encode i).bytes.length = 5 ∨ (encode i).bytes.length = 9

theorem trapReqReset (iaddr : Word) : Statement (.trapReqReset iaddr) := rfl
theorem trapReqUnd (iaddr : Word) : Statement (.trapReqUnd iaddr) := rfl
theorem trapReqSwi (iaddr : Word) : Statement (.trapReqSwi iaddr) := rfl
theorem trapReqPabt (iaddr : Word) : Statement (.trapReqPabt iaddr) := rfl
theorem trapReqDabt (iaddr : Word) : Statement (.trapReqDabt iaddr) := rfl
theorem trapReqRsvd (iaddr : Word) : Statement (.trapReqRsvd iaddr) := rfl
theorem trapReqIrq (iaddr : Word) : Statement (.trapReqIrq iaddr) := rfl
theorem trapReqFiq (iaddr : Word) : Statement (.trapReqFiq iaddr) := rfl
theorem excReturnReset : Statement .excReturnReset := rfl
theorem excReturnUnd : Statement .excReturnUnd := rfl
theorem excReturnSwi : Statement .excReturnSwi := rfl
theorem excReturnPabt : Statement .excReturnPabt := rfl
theorem excReturnDabt : Statement .excReturnDabt := rfl
theorem excReturnRsvd : Statement .excReturnRsvd := rfl
theorem excReturnIrq : Statement .excReturnIrq := rfl
theorem excReturnFiq : Statement .excReturnFiq := rfl
theorem movsPcLr : Statement .movsPcLr := rfl
theorem subsPcLr4 : Statement .subsPcLr4 := rfl
theorem subsPcLr8 : Statement .subsPcLr8 := rfl
theorem b (off24 : BitVec 24) : Statement (.b off24) := rfl
theorem swiSoftReset (cond : BitVec 4) (immHi : BitVec 16) : Statement (.swiSoftReset cond immHi) := rfl
theorem swiRegisterRamReset (cond : BitVec 4) (immHi : BitVec 16) : Statement (.swiRegisterRamReset cond immHi) := rfl
theorem swiHalt (cond : BitVec 4) (immHi : BitVec 16) : Statement (.swiHalt cond immHi) := rfl
theorem swiStop (cond : BitVec 4) (immHi : BitVec 16) : Statement (.swiStop cond immHi) := rfl
theorem swiIntrWait (cond : BitVec 4) (immHi : BitVec 16) : Statement (.swiIntrWait cond immHi) := rfl
theorem swiVBlankIntrWait (cond : BitVec 4) (immHi : BitVec 16) : Statement (.swiVBlankIntrWait cond immHi) := rfl
theorem swiDiv (cond : BitVec 4) (immHi : BitVec 16) : Statement (.swiDiv cond immHi) := rfl
theorem swiDivArm (cond : BitVec 4) (immHi : BitVec 16) : Statement (.swiDivArm cond immHi) := rfl
theorem swiSqrt (cond : BitVec 4) (immHi : BitVec 16) : Statement (.swiSqrt cond immHi) := rfl
theorem swiArcTan (cond : BitVec 4) (immHi : BitVec 16) : Statement (.swiArcTan cond immHi) := rfl
theorem swiArcTan2 (cond : BitVec 4) (immHi : BitVec 16) : Statement (.swiArcTan2 cond immHi) := rfl
theorem swiCpuSet (cond : BitVec 4) (immHi : BitVec 16) : Statement (.swiCpuSet cond immHi) := rfl
theorem swiCpuFastSet (cond : BitVec 4) (immHi : BitVec 16) : Statement (.swiCpuFastSet cond immHi) := rfl
theorem swiGetBiosChecksum (cond : BitVec 4) (immHi : BitVec 16) : Statement (.swiGetBiosChecksum cond immHi) := rfl
theorem swiBgAffineSet (cond : BitVec 4) (immHi : BitVec 16) : Statement (.swiBgAffineSet cond immHi) := rfl
theorem swiObjAffineSet (cond : BitVec 4) (immHi : BitVec 16) : Statement (.swiObjAffineSet cond immHi) := rfl
theorem swiBitUnPack (cond : BitVec 4) (immHi : BitVec 16) : Statement (.swiBitUnPack cond immHi) := rfl
theorem swiLZ77UnCompWram (cond : BitVec 4) (immHi : BitVec 16) : Statement (.swiLZ77UnCompWram cond immHi) := rfl
theorem swiLZ77UnCompVram (cond : BitVec 4) (immHi : BitVec 16) : Statement (.swiLZ77UnCompVram cond immHi) := rfl
theorem swiHuffUnComp (cond : BitVec 4) (immHi : BitVec 16) : Statement (.swiHuffUnComp cond immHi) := rfl
theorem swiRLUnCompWram (cond : BitVec 4) (immHi : BitVec 16) : Statement (.swiRLUnCompWram cond immHi) := rfl
theorem swiRLUnCompVram (cond : BitVec 4) (immHi : BitVec 16) : Statement (.swiRLUnCompVram cond immHi) := rfl
theorem swiDiff8bitUnFilterWram (cond : BitVec 4) (immHi : BitVec 16) : Statement (.swiDiff8bitUnFilterWram cond immHi) := rfl
theorem swiDiff8bitUnFilterVram (cond : BitVec 4) (immHi : BitVec 16) : Statement (.swiDiff8bitUnFilterVram cond immHi) := rfl
theorem swiDiff16bitUnFilter (cond : BitVec 4) (immHi : BitVec 16) : Statement (.swiDiff16bitUnFilter cond immHi) := rfl
theorem swiSoundBias (cond : BitVec 4) (immHi : BitVec 16) : Statement (.swiSoundBias cond immHi) := rfl
theorem swiSoundDriverInit (cond : BitVec 4) (immHi : BitVec 16) : Statement (.swiSoundDriverInit cond immHi) := rfl
theorem swiSoundDriverMode (cond : BitVec 4) (immHi : BitVec 16) : Statement (.swiSoundDriverMode cond immHi) := rfl
theorem swiSoundDriverMain (cond : BitVec 4) (immHi : BitVec 16) : Statement (.swiSoundDriverMain cond immHi) := rfl
theorem swiSoundDriverVSync (cond : BitVec 4) (immHi : BitVec 16) : Statement (.swiSoundDriverVSync cond immHi) := rfl
theorem swiSoundChannelClear (cond : BitVec 4) (immHi : BitVec 16) : Statement (.swiSoundChannelClear cond immHi) := rfl
theorem swiMidiKey2Freq (cond : BitVec 4) (immHi : BitVec 16) : Statement (.swiMidiKey2Freq cond immHi) := rfl
theorem swiMusicPlayerOpen (cond : BitVec 4) (immHi : BitVec 16) : Statement (.swiMusicPlayerOpen cond immHi) := rfl
theorem swiMusicPlayerStart (cond : BitVec 4) (immHi : BitVec 16) : Statement (.swiMusicPlayerStart cond immHi) := rfl
theorem swiMusicPlayerStop (cond : BitVec 4) (immHi : BitVec 16) : Statement (.swiMusicPlayerStop cond immHi) := rfl
theorem swiMusicPlayerContinue (cond : BitVec 4) (immHi : BitVec 16) : Statement (.swiMusicPlayerContinue cond immHi) := rfl
theorem swiMusicPlayerFadeOut (cond : BitVec 4) (immHi : BitVec 16) : Statement (.swiMusicPlayerFadeOut cond immHi) := rfl
theorem swiMultiBoot (cond : BitVec 4) (immHi : BitVec 16) : Statement (.swiMultiBoot cond immHi) := rfl
theorem swiHardReset (cond : BitVec 4) (immHi : BitVec 16) : Statement (.swiHardReset cond immHi) := rfl
theorem swiCustomHalt (cond : BitVec 4) (immHi : BitVec 16) : Statement (.swiCustomHalt cond immHi) := rfl
theorem swiSoundDriverVSyncOff (cond : BitVec 4) (immHi : BitVec 16) : Statement (.swiSoundDriverVSyncOff cond immHi) := rfl
theorem swiSoundDriverVSyncOn (cond : BitVec 4) (immHi : BitVec 16) : Statement (.swiSoundDriverVSyncOn cond immHi) := rfl
theorem swiSoundGetJumpList (cond : BitVec 4) (immHi : BitVec 16) : Statement (.swiSoundGetJumpList cond immHi) := rfl
theorem swiDebug (cond : BitVec 4) (immHi : BitVec 16) : Statement (.swiDebug cond immHi) := rfl
theorem swi (cond : BitVec 4) (imm24 : BitVec 24) : Statement (.swi cond imm24) := rfl
theorem callSoftReset : Statement .callSoftReset := rfl
theorem callRegisterRamReset : Statement .callRegisterRamReset := rfl
theorem callHalt : Statement .callHalt := rfl
theorem callStop : Statement .callStop := rfl
theorem callIntrWait : Statement .callIntrWait := rfl
theorem callVBlankIntrWait : Statement .callVBlankIntrWait := rfl
theorem callDiv : Statement .callDiv := rfl
theorem callDivArm : Statement .callDivArm := rfl
theorem callSqrt : Statement .callSqrt := rfl
theorem callArcTan : Statement .callArcTan := rfl
theorem callArcTan2 : Statement .callArcTan2 := rfl
theorem callCpuSet : Statement .callCpuSet := rfl
theorem callCpuFastSet : Statement .callCpuFastSet := rfl
theorem callGetBiosChecksum : Statement .callGetBiosChecksum := rfl
theorem callBgAffineSet : Statement .callBgAffineSet := rfl
theorem callObjAffineSet : Statement .callObjAffineSet := rfl
theorem callBitUnPack : Statement .callBitUnPack := rfl
theorem callLZ77UnCompWram : Statement .callLZ77UnCompWram := rfl
theorem callLZ77UnCompVram : Statement .callLZ77UnCompVram := rfl
theorem callHuffUnComp : Statement .callHuffUnComp := rfl
theorem callRLUnCompWram : Statement .callRLUnCompWram := rfl
theorem callRLUnCompVram : Statement .callRLUnCompVram := rfl
theorem callDiff8bitUnFilterWram : Statement .callDiff8bitUnFilterWram := rfl
theorem callDiff8bitUnFilterVram : Statement .callDiff8bitUnFilterVram := rfl
theorem callDiff16bitUnFilter : Statement .callDiff16bitUnFilter := rfl
theorem callSoundBias : Statement .callSoundBias := rfl
theorem callSoundDriverInit : Statement .callSoundDriverInit := rfl
theorem callSoundDriverMode : Statement .callSoundDriverMode := rfl
theorem callSoundDriverMain : Statement .callSoundDriverMain := rfl
theorem callSoundDriverVSync : Statement .callSoundDriverVSync := rfl
theorem callSoundChannelClear : Statement .callSoundChannelClear := rfl
theorem callMidiKey2Freq : Statement .callMidiKey2Freq := rfl
theorem callMusicPlayerOpen : Statement .callMusicPlayerOpen := rfl
theorem callMusicPlayerStart : Statement .callMusicPlayerStart := rfl
theorem callMusicPlayerStop : Statement .callMusicPlayerStop := rfl
theorem callMusicPlayerContinue : Statement .callMusicPlayerContinue := rfl
theorem callMusicPlayerFadeOut : Statement .callMusicPlayerFadeOut := rfl
theorem callMultiBoot : Statement .callMultiBoot := rfl
theorem callHardReset : Statement .callHardReset := rfl
theorem callCustomHalt : Statement .callCustomHalt := rfl
theorem callSoundDriverVSyncOff : Statement .callSoundDriverVSyncOff := rfl
theorem callSoundDriverVSyncOn : Statement .callSoundDriverVSyncOn := rfl
theorem callSoundGetJumpList : Statement .callSoundGetJumpList := rfl
theorem callDebug : Statement .callDebug := rfl
theorem callOutOfRange (n : Byte) : Statement (.callOutOfRange n) := rfl
theorem enterMode (m : Mode) : Statement (.enterMode m) := .inr (.inl rfl)
theorem saveStatus (m : Mode) : Statement (.saveStatus m) := .inr (.inl rfl)
theorem restoreStatus (m : Mode) (adj : Adjustment) : Statement (.restoreStatus m adj) := .inr (.inr rfl)
theorem readReg (i : Fin 16) : Statement (.readReg i) := .inr (.inl rfl)
theorem writeReg (i : Fin 16) (v : Word) : Statement (.writeReg i v) := .inr (.inr rfl)
theorem readCpsr : Statement .readCpsr := .inl rfl
theorem writeCpsr (v : Word) (flags control : Bool) : Statement (.writeCpsr v flags control) := .inr (.inr rfl)
theorem readSpsr : Statement .readSpsr := .inl rfl
theorem writeSpsr (v : Word) : Statement (.writeSpsr v) := .inr (.inl rfl)
theorem trapReq (k : TrapKind) (iaddr : Word) : Statement (.trapReq k iaddr) := .inr (.inr rfl)
theorem boundary (next : Word) : Statement (.boundary next) := .inr (.inl rfl)
theorem routerResume : Statement .routerResume := .inl rfl

end Sys2Proof.Laws.EncodeForm
end

