-- ==== Sys2Proof/Laws/Step.lean ====
section
/-! SUPPORT. Everything a step can do, said once: an instruction that answers a next state has one of the effects
listed, and a step is an instruction's effect, an interrupt entry, or a firmware step. Invariants are proved over
these lists. -/

namespace Sys2Proof.Machine

/-- What the instruction i can do to s when it answers a next state. The instructions that access `MEM` or write the
router's latches have cases of their own. -/
inductive Effect (s : State) : Instr → State → Prop where
  | masked (i : Instr) : Effect s i s
  | trap (i : Instr) (k : TrapKind) (a : Word) (h : s.masked k = false) : Effect s i (s.enterTrap k a)
  | mode (i : Instr) (m m' : Mode) (h : s.mode? = some m') (h' : m' ≠ .usr) :
      Effect s i { s with cpsr := Psr.withMode s.cpsr m }
  | spsr (i : Instr) (b : SpsrBank) (v : Word) : Effect s i { s with spsr := s.spsr.set b v }
  | ret (i : Instr) (b : SpsrBank) (adj : Adjustment) (h : s.mode? = some b.mode)
      (h' : (Psr.mode? (s.spsr.get b)).isSome = true) :
      Effect s i { s with cpsr := s.spsr.get b, pc := s.r14.get b.bank + adj.word }
  | reply (i : Instr) (v : Word) : Effect s i { s with reply := some v }
  | reg (i : Instr) (r : Fin 16) (v : Word) (t : State) (h : s.setX r v = some t) : Effect s i t
  | cpsr (m : Mode) (v : Word) (flags control : Bool) (h : s.mode? = some m)
      (h' : (Psr.mode? (writtenStatus m s.cpsr v flags control)).isSome = true) :
      Effect s (.writeCpsr v flags control) { s with cpsr := writtenStatus m s.cpsr v flags control }
  | jump (i : Instr) (v : Word) : Effect s i (s.setPc v)
  | boundary (a : Word) : Effect s (.boundary a) (s.atBoundary a)
  | debug (v : Word) : Effect s .callDebug ((s.store4 s.params.diagAddr s.gpr[0]).setPc v)
  | call (n : Byte) (t : State) (h : s.routerCall n = .next t) : Effect s (.callOutOfRange n) t
  | resume (t : State) (h : execRouterResume s = .next t) : Effect s .routerResume t
  | softReset (t : State) (h : s.sequencerS1 = .next t) : Effect s .callSoftReset t

theorem effect_trapRequest {i : Instr} {s t : State} {k : TrapKind} {a : Word} (h : s.trapRequest k a = .next t) : Effect s i t := by
  unfold State.trapRequest at h
  rcases Bool.eq_false_or_eq_true (s.masked k) with hm | hm
  · rw [hm] at h; cases next_inj h; exact .masked i
  · rw [hm] at h; cases next_inj h; exact .trap i k a hm

theorem mode_of_spsrBank {m : Mode} {b : SpsrBank} (h : m.spsrBank? = some b) : m = b.mode := by
  cases m <;> cases h <;> rfl

theorem effect_restoreStatus {i : Instr} {s t : State} {m : Mode} {adj : Adjustment} (h : s.restoreStatus m adj = .next t) :
    Effect s i t := by
  obtain ⟨b, hb, hm, hr⟩ := restoreStatus_next h
  obtain ⟨rfl, hv⟩ := returnFrom_next hr
  exact .ret i b adj (mode_of_spsrBank hb ▸ hm) hv

theorem effect_excReturn {i : Instr} {s t : State} {k : TrapKind} (h : s.excReturn k = .next t) : Effect s i t := by
  obtain ⟨adj, -, hr⟩ := excReturn_next h
  exact effect_restoreStatus hr

theorem effect_returnWord {i : Instr} {s t : State} {adj : Adjustment} (h : s.returnWord adj = .next t) : Effect s i t := by
  obtain ⟨m, -, hr⟩ := returnWord_next h
  exact effect_restoreStatus hr

theorem effect_raiseSwi {i : Instr} {s t : State} {cond : BitVec 4} (h : s.raiseSwi cond = .next t) : Effect s i t := by
  unfold State.raiseSwi at h
  cases next_inj h
  split
  · exact .trap i .swi _ rfl
  · exact .jump i _

theorem effect_subroutineReturn {i : Instr} {s t : State} (h : s.subroutineReturn = .next t) : Effect s i t := by
  obtain ⟨lr, -, rfl⟩ := subroutineReturn_next h
  exact .jump i lr

theorem effect_callDebug {s t : State} (h : execCallDebug s = .next t) : Effect s .callDebug t := by
  obtain ⟨lr, -, rfl⟩ := subroutineReturn_next h
  exact .debug lr

theorem effect_enterMode {i : Instr} {s t : State} {m : Mode} (h : s.enterMode m = .next t) : Effect s i t := by
  obtain ⟨⟨m', hm, hne⟩, rfl⟩ := enterMode_next h
  exact .mode i m m' hm hne

theorem effect_saveStatus {i : Instr} {s t : State} {m : Mode} (h : execSaveStatus m s = .next t) : Effect s i t := by
  unfold execSaveStatus at h
  split at h
  · exact absurd h (faultWith_ne_next _ _ _)
  · cases next_inj h; exact .spsr i _ _

theorem effect_readReg {i : Instr} {s t : State} {r : Fin 16} (h : execReadReg r s = .next t) : Effect s i t := by
  unfold execReadReg at h
  split at h
  · exact absurd h (faultWith_ne_next _ _ _)
  · cases next_inj h; exact .reply i _

theorem effect_writeReg {i : Instr} {s t : State} {r : Fin 16} {v : Word} (h : execWriteReg r v s = .next t) : Effect s i t := by
  unfold execWriteReg at h
  split at h
  · exact absurd h (faultWith_ne_next _ _ _)
  · rename_i u hu
    cases next_inj h
    exact .reg i r v _ hu

theorem effect_writeCpsr {s t : State} {v : Word} {flags control : Bool}
    (h : execWriteCpsr v flags control s = .next t) : Effect s (.writeCpsr v flags control) t := by
  unfold execWriteCpsr at h
  split at h
  · exact absurd h (faultWith_ne_next _ _ _)
  · rename_i m hm
    simp only at h
    split at h
    · rename_i hv
      cases next_inj h
      exact .cpsr m v flags control hm hv
    · exact absurd h (faultWith_ne_next _ _ _)

theorem withSpsr_next {s t : State} {f : SpsrBank → Result} (h : withSpsr s f = .next t) :
    ∃ b, s.mode? = some b.mode ∧ f b = .next t := by
  unfold withSpsr at h
  split at h
  · exact absurd h (faultWith_ne_next _ _ _)
  · rename_i m hm
    split at h
    · exact absurd h (faultWith_ne_next _ _ _)
    · rename_i b hb
      exact ⟨b, mode_of_spsrBank hb ▸ hm, h⟩

theorem effect_readSpsr {i : Instr} {s t : State} (h : execReadSpsr s = .next t) : Effect s i t := by
  obtain ⟨b, -, hb⟩ := withSpsr_next h
  cases next_inj hb; exact .reply i _

theorem effect_writeSpsr {i : Instr} {s t : State} {v : Word} (h : execWriteSpsr v s = .next t) : Effect s i t := by
  obtain ⟨b, -, hb⟩ := withSpsr_next h
  cases next_inj hb; exact .spsr i b v

/-- Every instruction that answers a next state has one of the effects. -/
theorem exec_effect {i : Instr} {s t : State} (h : exec i s = .next t) : Effect s i t := by
  cases i
  case trapReqReset | trapReqUnd | trapReqSwi | trapReqPabt | trapReqDabt | trapReqRsvd | trapReqIrq | trapReqFiq
    | trapReq => exact effect_trapRequest h
  case excReturnReset => exact effect_excReturn (k := .reset) h
  case excReturnUnd => exact effect_excReturn (k := .und) h
  case excReturnSwi => exact effect_excReturn (k := .swi) h
  case excReturnPabt => exact effect_excReturn (k := .pabt) h
  case excReturnDabt => exact effect_excReturn (k := .dabt) h
  case excReturnRsvd => exact effect_excReturn (k := .rsvd) h
  case excReturnIrq => exact effect_excReturn (k := .irq) h
  case excReturnFiq => exact effect_excReturn (k := .fiq) h
  case movsPcLr | subsPcLr4 | subsPcLr8 => exact effect_returnWord h
  case b => cases next_inj h; exact .jump _ _
  case callSoftReset => exact .softReset _ h
  case callDebug => exact effect_callDebug h
  case callOutOfRange n => exact .call n _ h
  case enterMode => exact effect_enterMode h
  case saveStatus => exact effect_saveStatus h
  case restoreStatus => exact effect_restoreStatus h
  case readReg => exact effect_readReg h
  case writeReg => exact effect_writeReg h
  case readCpsr => cases next_inj h; exact .reply _ _
  case writeCpsr => exact effect_writeCpsr h
  case readSpsr => exact effect_readSpsr h
  case writeSpsr => exact effect_writeSpsr h
  case boundary => cases next_inj h; exact .boundary _
  case routerResume => exact .resume _ h
  all_goals first | exact effect_raiseSwi h | exact effect_subroutineReturn h

/-! ### Firmware steps -/

/-- A return with a next state replaces the status word and `PC`. -/
theorem excReturn_shape {s t : State} {k : TrapKind} (h : s.excReturn k = .next t) :
    ∃ b pc, t = { s with cpsr := s.spsr.get b, pc := pc } ∧
      (Psr.mode? (s.spsr.get b)).isSome = true ∧ s.mode? = some b.mode := by
  obtain ⟨adj, -, hr⟩ := excReturn_next h
  obtain ⟨b, hb, hm, hr⟩ := restoreStatus_next hr
  obtain ⟨rfl, hv⟩ := returnFrom_next hr
  exact ⟨b, _, rfl, hv, mode_of_spsrBank hb ▸ hm⟩

/-- What step 5 of the router can write, and that it starts in a call and not in User mode (R158, R121). -/
theorem routerResume_shape {s t : State} (h : execRouterResume s = .next t) :
    t = { s with r14 := t.r14, r13 := t.r13, spsr := t.spsr, cpsr := t.spsr.svc, pc := t.pc,
                 rtrActive := false, mem := (s.load4 s.r13.svc).2.mem,
                 freeCount := (s.load4 s.r13.svc).2.freeCount } ∧
      t.mode?.isSome = true ∧ s.mode? ≠ some .usr ∧ s.rtrActive = true := by
  obtain ⟨ha, u, v, hu, hv, hp⟩ := routerResume_next h
  rw [setX_14] at hu
  obtain ⟨m, hm, rfl⟩ := Option.map_eq_some_iff.mp hu
  obtain ⟨⟨m', hm', hne⟩, rfl⟩ := enterMode_next hv
  obtain ⟨adj, -, hr⟩ := excReturn_next (routerPop_next hp)
  obtain ⟨b, hb, -, hr⟩ := restoreStatus_next hr
  obtain ⟨rfl, hval⟩ := returnFrom_next hr
  cases hb
  refine ⟨?_, hval, fun hu => hne (Option.some.inj (hm'.symm.trans hu)), ha⟩
  obtain ⟨-, h2, h3⟩ := load4_congr (s := s)
    (t := { s with r14 := s.r14.set m.bank s.rtrLrSave, rtrActive := false, cpsr := Psr.withMode s.cpsr .svc })
    rfl rfl rfl s.r13.svc
  rw [State.load4_same]
  simp only [h2, h3]
  rfl

theorem sequencerS3_next {s t : State} (h : s.sequencerS3 = .next t) :
    t = (s.clear s.params.wramClearBase 0x200).followedBy s .seqS4 :=
  (next_inj h).symm

/-- S3 changes the contents of `MEM` (and the counter of free values) and nothing else, and keeps the canonical form. -/
theorem sequencerS3_shape {s t : State} (h : s.sequencerS3 = .next t) :
    t = State.followedBy { s with mem := t.mem, freeCount := t.freeCount } s .seqS4 ∧
      (s.memWf = true → t.memWf = true) := by
  rw [sequencerS3_next h]
  have hc := State.clear_same 0x200 s s.params.wramClearBase
  have hw := fun h => clear_memWf 0x200 (s := s) h s.params.wramClearBase
  generalize s.clear s.params.wramClearBase 0x200 = u at hc hw
  exact ⟨by rw [hc]; rfl, hw⟩

theorem sequencerS6_next {s t : State} (h : s.sequencerS6 = .next t) :
    t = { (s.load1 s.params.entryFlagAddr).2 with
            cpsr := Psr.clearT s.cpsr, rtrActive := false, pending := [],
            pc := entryAddress s.params (s.load1 s.params.entryFlagAddr).1 } :=
  (next_inj h).symm

/-- What a firmware step can do when it answers a next state. -/
inductive PartEffect (s : State) : Part → State → Prop where
  | slot (k : TrapKind) : PartEffect s (.slot k) (s.setPc (handlerEntry s.params k))
  | mode (p : Part) (m m' : Mode) (r13 : PerBank Word) (spsr : PerSpsr Word) (pending : List Pending)
      (h : s.mode? = some m') (h' : m' ≠ .usr) :
      PartEffect s p { s with cpsr := Psr.withMode s.cpsr m, r13 := r13, spsr := spsr, pending := pending }
  | push (t : State) (h : s.routerStart = .next t) : PartEffect s .router t
  | number (t : State) (h : s.routerRead = .next t) : PartEffect s (.micro .routerRead) t
  | call (n : Byte) (t : State) (h : s.routerCall n = .next t) : PartEffect s (.micro (.routerCall n)) t
  | body (k : TrapKind) (t : State) (h : (s.handlerBody k).excReturn k = .next t) : PartEffect s (.body k) t
  | clear (t : State) (h : s.sequencerS3 = .next t) : PartEffect s (.micro .seqS3) t
  | zero (t : State) (h : s.sequencerS5 = .next t) : PartEffect s (.micro .seqS5) t
  | leave (t : State) (h : s.sequencerS6 = .next t) : PartEffect s (.micro .seqS6) t

theorem partEffect_mode {s t : State} {m : Mode} {f : State → State} {p : Part}
    (h : andThen (s.enterMode m) (fun u => .next (f u)) = .next t)
    (hf : ∀ u, ∃ r13 spsr pending, f u = { u with r13 := r13, spsr := spsr, pending := pending }) : PartEffect s p t := by
  obtain ⟨u, hu, ht⟩ := andThen_next h
  obtain ⟨⟨m', hm, hne⟩, rfl⟩ := enterMode_next hu
  cases next_inj ht
  obtain ⟨r13, spsr, pending, he⟩ := hf { s with cpsr := Psr.withMode s.cpsr m }
  rw [he]
  exact .mode p m m' r13 spsr pending hm hne

/-- Every firmware step that answers a next state has one of the effects. -/
theorem runPart_effect {p : Part} {s t : State} (h : runPart p s = .next t) : PartEffect s p t := by
  cases p with
  | slot k => cases next_inj h; exact .slot k
  | sequencer => exact partEffect_mode h fun _ => ⟨_, _, _, rfl⟩
  | router => exact .push t h
  | body k => exact .body k t h
  | micro m =>
    cases m with
    | routerRead => exact .number t h
    | routerMode n => exact partEffect_mode h fun _ => ⟨_, _, _, rfl⟩
    | routerCall n => exact .call n t h
    | seqS2 => exact partEffect_mode h fun _ => ⟨_, _, _, rfl⟩
    | seqS3 => exact .clear t h
    | seqS4 => exact partEffect_mode h fun _ => ⟨_, _, _, rfl⟩
    | seqS5 => exact .zero t h
    | seqS6 => exact .leave t h

/-! ### The step -/

/-- What `PC` selects does not depend on the sample the boundary uses up. -/
@[simp] theorem selected_sampled (s : State) : s.sampled.selected = s.selected := by
  simp only [State.selected, State.fetched, State.sampled_cpsr, State.sampled_nextStep?, State.sampled_params,
    State.sampled_pc, (load4_congr (s := s) (t := s.sampled) rfl rfl rfl s.pc).1]

/-- Where `PC` selects a vector slot's branch, no numbered step is pending. -/
theorem nextStep?_of_selected_slot {s : State} {k : TrapKind} (h : s.selected = .part (.slot k)) :
    s.nextStep? = none := by
  unfold State.selected at h
  repeat' split at h
  all_goals first | assumption | simp at h

/-- Where the next step runs what stands at `PC`, that is the step. -/
theorem step_atPc {s : State} (ho : s.outcome = .running) (hq : s.requests = []) (hi : s.interruptNow = none) :
    step s = runAtPc s.sampled := by
  simp only [step, ho, stepRunning, hq, hi]

/-- A step with a next state: the state carries no mark, and the step is what was presented, an interrupt entry at
the boundary, or what stands at `PC`. -/
theorem step_next {s t : State} (h : step s = .next t) :
    s.outcome = .running ∧
      ((∃ q rest i bytes, s.requests = q :: rest ∧ decode q = .ok (i, bytes) ∧
          exec i { s with requests := rest } = .next t) ∨
        (∃ k, s.requests = [] ∧ s.interruptNow = some k ∧ t = s.atBoundary s.pc) ∨
        (∃ i, s.requests = [] ∧ s.interruptNow = none ∧ s.sampled.selected = .instr i ∧ exec i s.sampled = .next t) ∨
        (∃ i, s.requests = [] ∧ s.interruptNow = none ∧ s.sampled.selected = .fetched i ∧
          exec i (s.sampled.load4 s.sampled.pc).2 = .next t) ∨
        (∃ p, s.requests = [] ∧ s.interruptNow = none ∧ s.sampled.selected = .part p ∧
          runPart p s.sampled = .next t)) := by
  unfold step at h
  split at h
  · rename_i ho
    refine ⟨ho, ?_⟩
    unfold stepRunning at h
    split at h
    · rename_i q rest hq
      split at h
      · rename_i i bytes hd
        exact .inl ⟨q, rest, i, bytes, hq, hd, h⟩
      · cases h
    · rename_i hq
      split at h
      · rename_i k hk
        exact .inr (.inl ⟨k, hq, hk, (next_inj h).symm⟩)
      · rename_i hk
        unfold runAtPc at h
        split at h
        · rename_i p hp
          exact .inr (.inr (.inr (.inr ⟨p, hq, hk, hp, h⟩)))
        · rename_i i hi
          exact .inr (.inr (.inl ⟨i, hq, hk, hi, h⟩))
        · rename_i i hi
          exact .inr (.inr (.inr (.inl ⟨i, hq, hk, hi, h⟩)))
        · cases h
  · exact absurd h (faultWith_ne_next _ _ _)
  · exact absurd h (refuseWith_ne_next _ _ _)

end Sys2Proof.Machine
end

