-- ==== Sys2Proof/Tests/Slice0.lean ====
section
/-! SUPPORT. Tests: the checks of WellFormed, words written out from the spec's encodings, the vectors of
95_test_vectors.md one step at a time (their T and P numbers stand in the comments), and a witness for the
hypotheses of every statement. -/

open Sys2Proof Sys2Proof.Machine

namespace Sys2Proof.Tests

set_option Elab.async false

/-! ### Helpers -/

/-- The next state, if there is one. -/
def after (r : Result) : Option State :=
  match r with
  | .next t => some t
  | _ => none

/-- The mark a fault or refusal leaves. -/
def stopMark (r : Result) : Option Mark :=
  match r with
  | .fault (.noSpsr t) | .fault (.invalidModeField t) | .fault (.returnModeMismatch t) | .fault (.routerReentry t)
  | .fault (.routerNotInSvc t) | .fault (.resumeWithoutRouter t) | .fault (.swiOutOfRange t) => some t.outcome
  | .refused (.resetHasNoReturn t) | .refused (.swiFromCompactState t) | .refused (.enterModeFromUser t) =>
    some t.outcome
  | _ => none

/-- E1 with a launch that states 0 for the rest of memory, so that the tests can be evaluated (R79). -/
def e1Launched : Params := { Params.e1 with memory := .ordinary (some 0) }

/-- A state with the given status word and `PC`, the rest as at reset. -/
def start (cpsr pc : Word) : State := { State.reset with cpsr := cpsr, pc := pc, params := e1Launched }

/-- Words written to memory, the first pair first. -/
def image (l : List (Word × Word)) : List Host.Cell := l.foldl (fun m x => Memory.write4 (fun _ => 0) m x.1 x.2) []

/-- The firmware image of E1 that the router reads: the call table (95, section 0). -/
def tableImage : List (Word × Word) :=
  (0x100, 0x300) :: ((List.range 43).map fun i =>
    (0x104 + 4 * BitVec.ofNat 32 i, 0x204 + 4 * BitVec.ofNat 32 i))

/-- The call table and the guest's word w at 0x08000100. -/
def guestMem (w : Word) : List Host.Cell := image (tableImage ++ [(0x08000100, w)])

/-- A state of E1 with the call table in place and the guest's word w at 0x08000100. -/
def guest (cpsr w : Word) : State :=
  { start cpsr 0x08000100 with mem := guestMem w, r13 := ⟨0x03007F00, 0, 0, 0x03007FE0, 0, 0⟩ }

/-- The state with the numbered step m next. -/
def nextIs (s : State) (m : MicroStep) : State := s.followedBy s m

/-! ### WellFormed: each check refuses an ill-formed term -/

theorem test_generic_swi_holds_no_defined_number :
    (Instr.swi 0xE 0x00002B).wellFormed = false ∧ (Instr.swi 0xE 0x123400).wellFormed = false ∧
      (Instr.swi 0xE 0x00002C).wellFormed = true := by decide

theorem test_out_of_range_call_holds_no_defined_number :
    (Instr.callOutOfRange 0x2B).wellFormed = false ∧ (Instr.callOutOfRange 0x2C).wellFormed = true ∧
      (Instr.callOutOfRange 0xFF).wellFormed = true := by decide

/-! ### Decoding words written out from the spec -/

/-- The rows TRAPKIND (R90), the kind as 3 bits, the address 0x08000100 little-endian. -/
theorem test_decode_trap_rows :
    ([0b000, 0b001, 0b010, 0b011, 0b100, 0b101, 0b110, 0b111].map fun (k : Byte) =>
      (decode ⟨.trapKind, [k, 0x00, 0x01, 0x00, 0x08]⟩).toOption) =
    [.trapReqReset 0x08000100, .trapReqUnd 0x08000100, .trapReqSwi 0x08000100, .trapReqPabt 0x08000100,
     .trapReqDabt 0x08000100, .trapReqRsvd 0x08000100, .trapReqIrq 0x08000100, .trapReqFiq 0x08000100].map
      fun i => some (i, []) := by decide

/-- The rows RETKIND (R91), the kind as 3 bits. -/
theorem test_decode_return_rows :
    ([0b000, 0b001, 0b010, 0b011, 0b100, 0b101, 0b110, 0b111].map fun (k : Byte) =>
      (decode ⟨.retKind, [k]⟩).toOption) =
    [.excReturnReset, .excReturnUnd, .excReturnSwi, .excReturnPabt, .excReturnDabt, .excReturnRsvd, .excReturnIrq,
     .excReturnFiq].map fun i => some (i, []) := by decide

/-- The rows UOP (R101), the operation as 4 bits, with operand words (log 8). -/
theorem test_decode_uop_rows :
    ([[0b0000, 2, 0, 0, 0], [0b0001, 3, 0, 0, 0], [0b0010, 4, 0, 0, 0, 0xF8, 0xFF, 0xFF, 0xFF], [0b0011, 13, 0, 0, 0],
      [0b0100, 15, 0, 0, 0, 1, 0, 0, 8], [0b0101], [0b0110, 0x53, 0, 0, 0, 2, 0, 0, 0], [0b0111],
      [0b1000, 0xFF, 0, 0, 0xFF], [0b1001, 6, 0, 0, 0, 4, 2, 0, 8], [0b1010, 4, 2, 0, 8], [0b1011]].map
      fun (bytes : List Byte) => (decode ⟨.uop, bytes⟩).toOption) =
    [.enterMode .irq, .saveStatus .svc, .restoreStatus .abt .minus8, .readReg 13, .writeReg 15 0x08000001, .readCpsr,
     .writeCpsr 0x53 false true, .readSpsr, .writeSpsr 0xFF0000FF, .trapReq .irq 0x08000204, .boundary 0x08000204,
     .routerResume].map fun i => some (i, []) := by decide

/-- Operand words outside the operand's range, and codes of more than the format's bits, are refused by name. -/
theorem test_decode_refuses :
    decode ⟨.uop, [0b0000, 7, 0, 0, 0]⟩ = .error .badOperand ∧ decode ⟨.uop, [0b0011, 16, 0, 0, 0]⟩ = .error .badOperand ∧
    decode ⟨.uop, [0b0010, 0, 0, 0, 0, 4, 0, 0, 0]⟩ = .error .badOperand ∧ decode ⟨.uop, [16]⟩ = .error .badCode ∧
    decode ⟨.trapKind, [8, 0, 0, 0, 0]⟩ = .error .badCode ∧ decode ⟨.retKind, [8]⟩ = .error .badCode ∧
    decode ⟨.uop, [0b1010, 4, 2, 0]⟩ = .error .truncated := ⟨rfl, rfl, rfl, rfl, rfl, rfl, rfl⟩

/-- The three return words field by field (R99), the slot branch (R97) and a word of the executor's. -/
theorem test_decode_arm32_words :
    decodeArm32 0b1110_00_0_1101_1_0000_1111_00000000_1110 = .ok .movsPcLr ∧
    decodeArm32 0b1110_00_1_0010_1_1110_1111_0000_00000100 = .ok .subsPcLr4 ∧
    decodeArm32 0b1110_00_1_0010_1_1110_1111_0000_00001000 = .ok .subsPcLr8 ∧
    decodeArm32 0b1110_101_0_111111111111111111111110 = .ok (.b 0xFFFFFE) ∧
    decodeArm32 0b1110_101_1_000000000000000000001100 = .error .notTheBlocks ∧
    decodeArm32 0b0000_1111_000100100011010000101011 = .ok (.swiDebug 0x0 0x1234) ∧
    decodeArm32 0b1110_1111_000000000000000011111111 = .ok (.swi 0xE 0x0000FF) := ⟨rfl, rfl, rfl, rfl, rfl, rfl, rfl⟩

/-- The 44 SWI rows, `cccc 1111 imm24` with the call number in the low byte (R92 to R94, 42 R186 to R229). -/
theorem test_decode_swi_rows :
    ((List.range 44).map fun n => (decodeArm32 (0xEF000000 + BitVec.ofNat 32 n)).toOption) =
    [.swiSoftReset 0xE 0, .swiRegisterRamReset 0xE 0, .swiHalt 0xE 0, .swiStop 0xE 0, .swiIntrWait 0xE 0,
     .swiVBlankIntrWait 0xE 0, .swiDiv 0xE 0, .swiDivArm 0xE 0, .swiSqrt 0xE 0, .swiArcTan 0xE 0, .swiArcTan2 0xE 0,
     .swiCpuSet 0xE 0, .swiCpuFastSet 0xE 0, .swiGetBiosChecksum 0xE 0, .swiBgAffineSet 0xE 0, .swiObjAffineSet 0xE 0,
     .swiBitUnPack 0xE 0, .swiLZ77UnCompWram 0xE 0, .swiLZ77UnCompVram 0xE 0, .swiHuffUnComp 0xE 0,
     .swiRLUnCompWram 0xE 0, .swiRLUnCompVram 0xE 0, .swiDiff8bitUnFilterWram 0xE 0, .swiDiff8bitUnFilterVram 0xE 0,
     .swiDiff16bitUnFilter 0xE 0, .swiSoundBias 0xE 0, .swiSoundDriverInit 0xE 0, .swiSoundDriverMode 0xE 0,
     .swiSoundDriverMain 0xE 0, .swiSoundDriverVSync 0xE 0, .swiSoundChannelClear 0xE 0, .swiMidiKey2Freq 0xE 0,
     .swiMusicPlayerOpen 0xE 0, .swiMusicPlayerStart 0xE 0, .swiMusicPlayerStop 0xE 0, .swiMusicPlayerContinue 0xE 0,
     .swiMusicPlayerFadeOut 0xE 0, .swiMultiBoot 0xE 0, .swiHardReset 0xE 0, .swiCustomHalt 0xE 0,
     .swiSoundDriverVSyncOff 0xE 0, .swiSoundDriverVSyncOn 0xE 0, .swiSoundGetJumpList 0xE 0, .swiDebug 0xE 0].map
      some := by decide +kernel

/-- The 44 call rows and the out-of-range row by number (R94, 42 R186 to R229). -/
theorem test_decode_call_rows :
    ((List.range 45).map fun n => decodeCall (BitVec.ofNat 8 n)) =
    [.callSoftReset, .callRegisterRamReset, .callHalt, .callStop, .callIntrWait, .callVBlankIntrWait, .callDiv,
     .callDivArm, .callSqrt, .callArcTan, .callArcTan2, .callCpuSet, .callCpuFastSet, .callGetBiosChecksum,
     .callBgAffineSet, .callObjAffineSet, .callBitUnPack, .callLZ77UnCompWram, .callLZ77UnCompVram, .callHuffUnComp,
     .callRLUnCompWram, .callRLUnCompVram, .callDiff8bitUnFilterWram, .callDiff8bitUnFilterVram,
     .callDiff16bitUnFilter, .callSoundBias, .callSoundDriverInit, .callSoundDriverMode, .callSoundDriverMain,
     .callSoundDriverVSync, .callSoundChannelClear, .callMidiKey2Freq, .callMusicPlayerOpen, .callMusicPlayerStart,
     .callMusicPlayerStop, .callMusicPlayerContinue, .callMusicPlayerFadeOut, .callMultiBoot, .callHardReset,
     .callCustomHalt, .callSoundDriverVSyncOff, .callSoundDriverVSyncOn, .callSoundGetJumpList, .callDebug,
     .callOutOfRange 0x2C] := by decide +kernel

/-- The table's numbering: bit 0 is the least significant bit of the first byte. -/
theorem test_decode_table_words :
    decodeTableWord 32 0xE25EF004 = some .subsPcLr4 ∧ decodeTableWord 32 0x0F00002B = some (.swiDebug 0 0) ∧
    decodeTableWord 8 0x06 = some .callDiv ∧ decodeTableWord 3 0b010 = some (.trapReqSwi 0) ∧
    decodeTableWord 4 0b1011 = some .routerResume ∧ decodeTableWord 32 0xE12FFF1E = none := ⟨rfl, rfl, rfl, rfl, rfl, rfl⟩

/-- A table word presented to the reset state is the very next instruction (log 22). -/
theorem test_presented_word_runs_first :
    (after (step (State.reset.withFetchWord 32 0xEF00002B))).map (fun t => (t.pc, t.cpsr, t.r14.svc, t.spsr.svc)) =
      some (0x08, 0x000000D3, 0x04, 0x000000D3) := by decide +kernel

/-! ### The Status Word Manager and the access operations (T1 to T8) -/

/-- T1. -/
theorem test_enterMode_every_mode :
    ([Mode.usr, .fiq, .irq, .svc, .abt, .und, .sys].map fun m =>
      (after (exec (.enterMode m) (start 0xF00000D3 0))).map (·.cpsr)) =
    [some 0xF00000D0, some 0xF00000D1, some 0xF00000D2, some 0xF00000D3, some 0xF00000D7, some 0xF00000DB,
     some 0xF00000DF] := by decide +kernel

/-- T1, bits 27:8; T2. -/
theorem test_enterMode_keeps_bits_and_refuses_user :
    (after (exec (.enterMode .irq) (start 0x0012345B 0))).map (·.cpsr) = some 0x00123452 ∧
    stopMark (exec (.enterMode .svc) (start 0x00000010 0)) = some (.refused .enterModeFromUser) := by decide +kernel

/-- T3, T8: the view of r13, r8 and r14 in SVC, SYS and FIQ mode. -/
theorem test_register_view :
    let s : State := { start 0x000000D3 0 with
      r13 := ⟨0xCCCC0000, 0xDDDD0000, 0xBBBB0000, 0xAAAA0000, 0, 0⟩, r14 := ⟨0x11112222, 0, 0, 5, 0, 0⟩,
      gpr := #v[0, 0, 0, 0, 0, 0, 0, 0, 8, 0, 0, 0, 0], fiqHi := #v[0xF8, 0, 0, 0, 0] }
    let read (s : State) (i : Fin 16) := (after (exec (.readReg i) s)).bind (·.reply)
    read s 13 = some 0xAAAA0000 ∧ read { s with cpsr := 0xDF } 13 = some 0xCCCC0000 ∧
    read { s with cpsr := 0xD1 } 13 = some 0xDDDD0000 ∧ read { s with cpsr := 0xD1 } 8 = some 0xF8 ∧
    read { s with cpsr := 0xD0 } 8 = some 8 ∧ read { s with cpsr := 0xD0 } 14 = some 0x11112222 ∧
    read { s with cpsr := 0xD1, params := { s.params with fiqBankR8R12 := false } } 8 = some 8 := by decide +kernel

/-- T8. -/
theorem test_writeReg :
    (after (exec (.writeReg 14 0x11112222) (start 0xDF 0))).map (·.r14.usr) = some 0x11112222 ∧
    (after (exec (.writeReg 15 0x08000001) (start 0xDF 0))).map (·.pc) = some 0x08000001 ∧
    (after (exec (.writeReg 12 7) (start 0xD1 0))).map (fun t => (t.fiqHi[4], t.gpr[12])) = some (7, 0) := by
  decide +kernel

/-- T4. -/
theorem test_saveStatus :
    (after (exec (.saveStatus .irq) (start 0x20000010 0))).map (·.spsr.irq) = some 0x20000010 ∧
    stopMark (exec (.saveStatus .sys) (start 0x20000010 0)) = some (.faulted .noSpsr) ∧
    stopMark (exec (.saveStatus .usr) (start 0x20000010 0)) = some (.faulted .noSpsr) := by decide +kernel

/-- T5 (a) and (d). -/
theorem test_restoreStatus :
    (after (exec (.restoreStatus .svc .zero)
      { start 0x93 0 with r14 := ⟨0, 0, 0, 0x08000104, 0, 0⟩, spsr := ⟨0, 0, 0x20000010, 0, 0⟩ })).map
        (fun t => (t.cpsr, t.pc, t.r14.svc, t.spsr.svc)) = some (0x20000010, 0x08000104, 0x08000104, 0x20000010) ∧
    (after (exec (.restoreStatus .svc .minus4)
      { start 0x93 0 with r14 := ⟨0, 0, 0, 2, 0, 0⟩, spsr := ⟨0, 0, 0x10, 0, 0⟩ })).map (·.pc) =
        some 0xFFFFFFFE := by decide +kernel

/-- T5 (e), (f), (g). -/
theorem test_restoreStatus_stops :
    stopMark (exec (.restoreStatus .irq .minus4) (start 0x93 0)) = some (.faulted .returnModeMismatch) ∧
    stopMark (exec (.restoreStatus .sys .zero) (start 0xDF 0)) = some (.faulted .noSpsr) ∧
    exec (.restoreStatus .svc .zero) { start 0x93 0 with r14 := ⟨0, 0, 0, 0x08000000, 0, 0⟩ } =
      .fault (.invalidModeField { start 0 0x08000000 with
        r14 := ⟨0, 0, 0, 0x08000000, 0, 0⟩, outcome := .faulted .invalidModeField }) :=
  ⟨by decide +kernel, by decide +kernel, rfl⟩

/-- T6 (a), (c), (e). -/
theorem test_writeCpsr :
    (after (exec (.writeCpsr 0x00000053 false true) (start 0x000000D3 0))).map (·.cpsr) = some 0x00000053 ∧
    (after (exec (.writeCpsr 0xF00000D3 true true) (start 0x00000010 0))).map (·.cpsr) = some 0xF0000010 ∧
    (after (exec (.writeCpsr 0xFFFFFFFF true true) (start 0x00123493 0))).map (·.cpsr) = some 0xF01234FF := by
  decide +kernel

/-- T6 (d). -/
theorem test_writeCpsr_invalid :
    exec (.writeCpsr 0 false true) (start 0x000000D3 0) =
      .fault (.invalidModeField { start 0 0 with outcome := .faulted .invalidModeField }) := rfl

/-- T7; R128's example. -/
theorem test_status_access :
    (after (exec .readCpsr State.reset)).bind (·.reply) = some 0x000000D3 ∧
    (after (exec .readSpsr { start 0xD2 0 with spsr := ⟨0, 0x6000001F, 0, 0, 0⟩ })).bind (·.reply) = some 0x6000001F ∧
    (after (exec (.writeSpsr 0xFFFFFFFF) (start 0xDB 0))).map (·.spsr.und) = some 0xFFFFFFFF ∧
    stopMark (exec .readSpsr (start 0xDF 0)) = some (.faulted .noSpsr) ∧
    stopMark (exec (.writeSpsr 0) (start 0x10 0)) = some (.faulted .noSpsr) := by decide +kernel

/-! ### Trap entry and return (T10 to T16) -/

/-- The entered bank's r14 and saved status word, the status word and `PC` after a request at 0x08000100. -/
def entryOf (k : TrapKind) (cpsr : Word) : Option (Word × Word × Word × Word) :=
  (after (exec (trapRow k 0x08000100) (start cpsr 0x08000100))).map fun t =>
    (t.r14.get k.entryBank.bank, t.spsr.get k.entryBank, t.cpsr, t.pc)

/-- T10, start A. -/
theorem test_entry_from_user :
    [entryOf .und 0x10, entryOf .swi 0x10, entryOf .pabt 0x10, entryOf .dabt 0x10, entryOf .rsvd 0x10,
     entryOf .irq 0x10, entryOf .fiq 0x10] =
    [some (0x08000104, 0x10, 0x9B, 0x04), some (0x08000104, 0x10, 0x93, 0x08), some (0x08000104, 0x10, 0x97, 0x0C),
     some (0x08000108, 0x10, 0x97, 0x10), some (0x08000104, 0x10, 0x93, 0x14), some (0x08000104, 0x10, 0x92, 0x18),
     some (0x08000104, 0x10, 0xD1, 0x1C)] := by decide +kernel

/-- T10, start B. -/
theorem test_entry_from_compact_state :
    [entryOf .und 0xF0000030, entryOf .swi 0xF0000030, entryOf .dabt 0xF0000030, entryOf .fiq 0xF0000030] =
    [some (0x08000102, 0xF0000030, 0xF000009B, 0x04), some (0x08000102, 0xF0000030, 0xF0000093, 0x08),
     some (0x08000108, 0xF0000030, 0xF0000097, 0x10), some (0x08000104, 0xF0000030, 0xF00000D1, 0x1C)] := by
  decide +kernel

/-- T10, start C: IRQ and FIQ masked, not taken; the masks never cleared by entry. -/
theorem test_entry_masked :
    exec (.trapReqIrq 0x08000100) (start 0x600000D3 0) = .next (start 0x600000D3 0) ∧
    exec (.trapReqFiq 0x08000100) (start 0x600000D3 0) = .next (start 0x600000D3 0) ∧
    entryOf .pabt 0x600000D3 = some (0x08000104, 0x600000D3, 0x600000D7, 0x0C) := ⟨rfl, rfl, by decide +kernel⟩

/-- P6: a RESET request from a status word that names no mode. -/
theorem test_reset_request :
    (after (exec (.trapReqReset 0) (start 0xA5A5A5A5 0x1234))).map (fun t => (t.cpsr, t.pc, t.freeCount)) =
      some (0xA5A5A5D3, 0x00, 2) := rfl

/-- T11, continuing start A: `PC` after the return of each kind. -/
theorem test_return_of_each_kind :
    ([TrapKind.und, .swi, .pabt, .dabt, .rsvd, .irq, .fiq].map fun k =>
      (after (andThen (exec (trapRow k 0x08000100) (start 0x10 0)) (exec (returnRow k)))).map fun t => (t.cpsr, t.pc)) =
    [some (0x10, 0x08000104), some (0x10, 0x08000104), some (0x10, 0x08000100), some (0x10, 0x08000100),
     some (0x10, 0x08000100), some (0x10, 0x08000100), some (0x10, 0x08000100)] := by decide +kernel

/-- T11: the return words after SWI, PABT and DABT; EXC_RETURN(RESET). -/
theorem test_return_words :
    ([(TrapKind.swi, Instr.movsPcLr), (.pabt, .subsPcLr4), (.dabt, .subsPcLr8)].map fun x =>
      (after (andThen (exec (trapRow x.1 0x08000100) (start 0xF0000030 0)) (exec x.2))).map fun t => (t.cpsr, t.pc)) =
    [some (0xF0000030, 0x08000102), some (0xF0000030, 0x08000100), some (0xF0000030, 0x08000100)] ∧
    stopMark (exec .excReturnReset State.reset) = some (.refused .resetHasNoReturn) := by decide +kernel

/-- T12: FIQ before IRQ, each with its mask clear. -/
theorem test_boundary :
    let at_ (cpsr : Word) (l : Lines) :=
      (after (exec (.boundary 0x08000204) { start cpsr 0x08000204 with lines := [l] })).map fun t => (t.pc, t.lines)
    at_ 0x1F ⟨false, false⟩ = some (0x08000204, []) ∧ at_ 0x1F ⟨true, true⟩ = some (0x1C, []) ∧
    at_ 0x5F ⟨true, true⟩ = some (0x18, []) ∧ at_ 0xDF ⟨true, true⟩ = some (0x08000204, []) ∧
    at_ 0x9F ⟨false, true⟩ = some (0x08000204, []) := by decide +kernel

/-- T14: at the boundary before the Data-Abort slot the FIQ is taken first. -/
theorem test_fiq_before_abort_vector :
    (after (step { start 0x00000097 0x10 with lines := [⟨true, false⟩] })).map
      (fun t => (t.r14.fiq, t.spsr.fiq, t.cpsr, t.pc)) = some (0x14, 0x97, 0xD1, 0x1C) := by decide +kernel

/-- A boundary between numbered steps (R151, R325): an FIQ there links to `PC`, and its return goes on with the step
that was next. -/
theorem test_fiq_between_steps :
    let s := nextIs (start 0x00000093 0x300) .seqS3
    let entered := s.enterTrap .fiq 0x300
    (entered.pc, entered.nextStep?, entered.r14.fiq) = (0x1C, none, 0x304) ∧
    (after (exec .excReturnFiq entered)).map (fun t => (t.pc, t.nextStep?)) = some (0x300, some .seqS3) := by
  decide +kernel

/-- R292: an FIQ handler that has saved its r14 and SPSR takes a second FIQ, returns from it, restores both cells and
returns: the step that the first FIQ interrupted is next (log 9). -/
theorem test_nested_fiq_keeps_pending_step :
    let s := nextIs (start 0x00000093 0x40) .routerRead
    let inner : State := State.enterTrap { s.enterTrap .fiq 0x40 with cpsr := 0x91, pc := 0x6C } .fiq 0x6C
    (after (andThen (exec .excReturnFiq inner) fun t =>
      exec .excReturnFiq { t with r14 := { t.r14 with fiq := 0x44 }, spsr := { t.spsr with fiq := 0x93 } })).map
      (fun t => (t.pc, t.cpsr, t.nextStep?)) = some (0x40, 0x93, some .routerRead) := by decide +kernel

/-- R16, R292: the handler of an FIQ between the router's steps returns to another context; a later FIQ's return that
restores the listed cells goes on with the router's pending step (log 9). -/
theorem test_fiq_switches_context :
    let s := nextIs (start 0x00000093 0x40) .routerRead
    let away : State := { s.enterTrap .fiq 0x40 with
      r14 := ⟨0, 0x08000204, 0, 0, 0, 0⟩, spsr := ⟨0x10, 0, 0, 0, 0⟩ }
    let back (t : State) : State := { State.enterTrap t .fiq 0x08000200 with
      r14 := ⟨0, 0x44, 0, 0, 0, 0⟩, spsr := ⟨0x93, 0, 0, 0, 0⟩ }
    (after (exec .excReturnFiq away)).map (fun t => (t.pc, t.cpsr, t.nextStep?)) = some (0x08000200, 0x10, none) ∧
    (after (andThen (exec .excReturnFiq away) fun t => exec .excReturnFiq (back t))).map
      (fun t => (t.pc, t.cpsr, t.nextStep?)) = some (0x40, 0x93, some .routerRead) := by decide +kernel

/-- R95, R151: the other context may make a call of its own meanwhile: the slot's branch starts the router from its
checks, and the first call's step is still the next one of its position (log 9). -/
theorem test_call_from_other_context :
    let s := nextIs (start 0x00000093 0x40) .routerRead
    let other : State := { s with pc := 0x08, r13 := ⟨0, 0, 0, 0x03007F80, 0, 0⟩, r14 := ⟨0, 0, 0, 0x08000104, 0, 0⟩ }
    (after (step other)).map (fun t => (t.pc, t.nextStep?)) = some (0x40, none) ∧
    (after (andThen (step other) step)).map (fun t =>
      (t.nextStep?, ({ t with r13 := s.r13, r14 := s.r14, spsr := s.spsr } : State).nextStep?)) =
      some (some .routerRead, some .routerRead) ∧
    (after (andThen (andThen (step other) step) step)).map (fun t =>
      (t.nextStep?, ({ t with r13 := s.r13, r14 := s.r14, spsr := s.spsr } : State).nextStep?)) =
      some (some (.routerMode 0), some .routerRead) := by decide +kernel

/-- R151, R325: a context interrupted before the router's checks still starts them, whatever another context has pending
there (log 9). -/
theorem test_interrupted_before_the_checks :
    let s : State := { start 0x00000093 0x08 with r14 := ⟨0, 0, 0, 0x08000304, 0, 0⟩ }
    let other (t : State) : State := { t with
      pc := 0x08, r13 := ⟨0, 0, 0, 0x03007F80, 0, 0⟩, r14 := ⟨0, 0, 0, 0x08000104, 0, 0⟩ }
    (after (andThen (step s) fun t => andThen (step (other t)) step)).map (fun t =>
      (t.pc, t.nextStep?, ({ t with r13 := s.r13, r14 := s.r14 } : State).nextStep?)) =
      some (0x40, some .routerRead, none) := by decide +kernel

/-- R290, R151, T26: with a router step pending elsewhere, a return to `H_VEC[2]` in IRQ mode starts the router's checks,
as it does with nothing pending. -/
theorem test_return_to_router_in_irq_mode :
    let s := nextIs (start 0x00000093 0x40) .routerRead
    let back (t : State) : State := { t with
      cpsr := 0xD1, pc := 0x6C, r14 := ⟨0, 0x44, 0, 0, 0, 0⟩, spsr := ⟨0x92, 0, 0, 0, 0⟩ }
    (after (exec .excReturnFiq (back s))).map (fun t => (t.pc, t.cpsr, t.nextStep?)) = some (0x40, 0x92, none) ∧
    stopMark (andThen (exec .excReturnFiq (back s)) step) = some (.faulted .routerNotInSvc) ∧
    stopMark (andThen (exec .excReturnFiq (back { s with pending := [] })) step) = some (.faulted .routerNotInSvc) := by
  decide +kernel

/-- R16: between the router's steps a write of the value that `PC` holds changes no cell of 10_state.md, and nothing else;
a transfer to another address and back finds the step that was next. -/
theorem test_pc_written_between_steps :
    let s := nextIs (start 0x00000093 0x40) .routerRead
    after (exec (.writeReg 15 0x40) s) = some s ∧
    (after (exec (.writeReg 15 0x300) s)).map (fun t => (t.pc, t.nextStep?)) = some (0x300, none) ∧
    (after (andThen (exec (.writeReg 15 0x300) s) fun t => exec (.writeReg 15 0x40) t)).map
      (fun t => (t.pc, t.nextStep?)) = some (0x40, some .routerRead) := by decide +kernel

/-- T16: the slots' branches. -/
theorem test_slots :
    ([0x00, 0x04, 0x08, 0x0C, 0x10, 0x14, 0x18, 0x1C].map fun (a : Word) =>
      (after (step (start 0xD3 a))).map (·.pc)) =
    [some 0x300, some 0x300, some 0x40, some 0x60, some 0x64, some 0x300, some 0x68, some 0x6C] := by decide +kernel

/-- R98's worked example and T40's. -/
theorem test_branch :
    (after (exec (.b 0xC) (start 0xD3 0x08))).map (·.pc) = some 0x40 ∧
    (after (exec (.b 0xFFFFFE) (start 0xD3 0x100))).map (·.pc) = some 0x100 := by decide +kernel

/-! ### The SWI, the router and the call handlers (T20 to T29, P1) -/

/-- P1, the SWI fetched at 0x08000100. -/
theorem test_swi_entry :
    (after (step (guest 0x20000010 0xEF00002B))).map (fun t => (t.r14.svc, t.spsr.svc, t.cpsr, t.pc)) =
      some (0x08000104, 0x20000010, 0x20000093, 0x08) := by decide +kernel

/-- P1 after the slot branch: the state at the router's entry. -/
def atRouter (spsr w : Word) : State :=
  { guest 0x20000093 w with
    pc := 0x40, r14 := ⟨0x08000321, 0, 0, 0x08000104, 0, 0⟩, spsr := ⟨0, 0, spsr, 0, 0⟩ }

/-- P1, router step 1. -/
theorem test_router_push :
    (after (step (atRouter 0x20000010 0xEF00002B))).map
      (fun t => (t.r13.svc, t.wordAt 0x03007FDC, t.nextStep?)) =
      some (0x03007FDC, 0x20000010, some .routerRead) := by decide +kernel

/-- T20: step 2's number, whatever bits 31:8 of the word. -/
theorem test_router_number :
    ([0xEF00002B, 0xEF12342B, 0x0F00002B, 0xEF000000, 0xEFFFFFFF].map fun (w : Word) =>
      (after (step (nextIs (atRouter 0x20000010 w) .routerRead))).map (·.nextStep?)) =
    [some (some (.routerMode 0x2B)), some (some (.routerMode 0x2B)), some (some (.routerMode 0x2B)),
     some (some (.routerMode 0x00)), some (some (.routerMode 0xFF))] := by decide +kernel

/-- P1, steps 3 and 4. -/
theorem test_router_mode_and_call :
    (after (step (nextIs (atRouter 0x20000010 0xEF00002B) (.routerMode 0x2B)))).map (·.cpsr) =
      some 0x2000009F ∧
    (after (step (nextIs { atRouter 0x20000010 0xEF00002B with cpsr := 0x2000009F } (.routerCall 0x2B)))).map
      (fun t => (t.rtrLrSave, t.r14.usr, t.rtrActive, t.pc, t.cpsr)) =
      some (0x08000321, 0x58, true, 0x2AC, 0x2000009F) := by decide +kernel

/-- T21. -/
theorem test_slot_addresses :
    ([0x00, 0x01, 0x06, 0x2B, 0x2C, 0xFF].map fun (n : Byte) => callSlot Params.e1 n) =
      [0x100, 0x104, 0x118, 0x1AC, 0x1B0, 0x4FC] ∧
    callSlot { Params.e1 with callTableBase := 0xFFFFFF00 } 0x40 = 0 := by decide +kernel

/-- T23, T24, T26. -/
theorem test_router_checks :
    stopMark (step { atRouter 0x2000009F 0xEF00002B with rtrActive := true }) = some (.faulted .routerReentry) ∧
    stopMark (step (atRouter 0x00000030 0xEF00002B)) = some (.refused .swiFromCompactState) ∧
    stopMark (step { atRouter 0x20000010 0xEF00002B with cpsr := 0x92 }) = some (.faulted .routerNotInSvc) ∧
    stopMark (step (start 0xDF 0x58)) = some (.faulted .resumeWithoutRouter) := by decide +kernel

/-- P4 and T25: the word after the table, and the policy that faults. -/
theorem test_out_of_range_call :
    let s := nextIs { start 0x8000009F 0x40 with mem := image [(0x1B0, 0x09000000)] } (.routerCall 0x2C)
    (after (step s)).map (fun t => (t.pc, t.r14.usr, t.rtrActive)) = some (0x09000000, 0x58, true) ∧
    stopMark (exec (.callOutOfRange 0x2C) { s with params := { s.params with oorPolicy := .fatal } }) =
      some (.faulted .swiOutOfRange) := by decide +kernel

/-- P1, step 5. -/
theorem test_router_resume :
    (after (step { start 0x2000009F 0x58 with
      r13 := ⟨0x03007F00, 0, 0, 0x03007FDC, 0, 0⟩, r14 := ⟨0x58, 0, 0, 0x08000104, 0, 0⟩, rtrActive := true,
      rtrLrSave := 0x08000321, mem := image [(0x03007FDC, 0x20000010)] })).map
      (fun t => (t.r14.usr, t.rtrActive, t.spsr.svc, t.r13.svc, t.cpsr, t.pc)) =
    some (0x08000321, false, 0x20000010, 0x03007FE0, 0x20000010, 0x08000104) := by decide +kernel

/-- The handler context of T27 and T28. -/
def inHandler (pc r0 : Word) : State :=
  { start 0x2000009F pc with
    r14 := ⟨0x58, 0, 0, 0, 0, 0⟩, rtrActive := true, gpr := #v[r0, 7, 0, 0, 0, 0, 0, 0, 0, 0, 0, 0, 0] }

/-- T27: the bytes at `DIAG_ADDR`. -/
theorem test_debug_call :
    ((after (step (inHandler 0x2AC 0xCAFEBABE))).map fun t =>
      (([0x04FFFFF0, 0x04FFFFF1, 0x04FFFFF2, 0x04FFFFF3] : List Word).map t.byteAt, t.pc, t.gpr[0])) =
      some ([0xBE, 0xBA, 0xFE, 0xCA], 0x58, 0xCAFEBABE) ∧
    ((after (step (inHandler 0x2AC 0x80))).map fun t => t.wordAt 0x04FFFFF0) = some 0x80 := by decide +kernel

/-- D36: with a `MEM` of which nothing is known the steps that access it run all the same. -/
theorem test_other_memory :
    let s : State := { inHandler 0x2AC 1 with params := { e1Launched with memory := .other, diagAddr := 0x04FFFFF1 } }
    (after (exec .callDebug s)).map (fun t => (t.pc, t.freeCount)) = some (0x58, 1) ∧
    (after (exec (.callOutOfRange 0x2C) s)).map (fun t => (t.r14.usr, t.freeCount)) = some (0x58, 1) := by
  decide +kernel

/-- T28: every placeholder returns at once. -/
theorem test_placeholders :
    ((List.range 42).map fun i => (after (step (inHandler (0x204 + 4 * BitVec.ofNat 32 i) 100))).map fun t =>
      (t.pc, t.gpr, t.mem)) =
    List.replicate 42 (some (0x58, #v[100, 7, 0, 0, 0, 0, 0, 0, 0, 0, 0, 0, 0], [])) := by decide +kernel

/-! ### The sequencer (T30, T32) -/

/-- T30's start, at the sequencer's entry or with a step of it pending. -/
def atSequencer (cpsr : Word) (m : Option MicroStep) : State :=
  let s : State := { start cpsr 0x300 with
    gpr := #v[5, 5, 5, 5, 5, 5, 5, 5, 5, 5, 5, 5, 5], spsr := ⟨0, 9, 9, 0, 0⟩, rtrActive := true,
    mem := image [(0x03007DFC, 0x88000000), (0x03007E00, 0x55), (0x03007FF8, 0x00010000), (0x03007FFC, 0x66000000),
      (0x03008000, 0x77)] }
  m.elim s (nextIs s)

/-- T30, S1 and S2. -/
theorem test_sequencer_S1_S2 :
    (after (step (atSequencer 0x8000009B none))).map (fun t => (t.cpsr, t.r13.irq, t.spsr.irq, t.nextStep?)) =
      some (0x80000092, 0x03007FA0, 0, some .seqS2) ∧
    (after (step (atSequencer 0x80000092 (some .seqS2)))).map (fun t => (t.cpsr, t.r13.svc, t.spsr.svc, t.nextStep?)) =
      some (0x80000093, 0x03007FE0, 0, some .seqS3) := by decide +kernel

/-- T30, S3 (the bytes of P2). -/
theorem test_sequencer_S3 :
    (after (step (atSequencer 0x80000093 (some .seqS3)))).map
      (fun t => (t.mem, t.nextStep?)) = some ([(0x03007DFF, 0x88), (0x03008000, 0x77)], some .seqS4) := by decide +kernel

/-- T30, S4, S5, S6, the flag byte already cleared. -/
theorem test_sequencer_S4_S5_S6 :
    (after (step (atSequencer 0x80000093 (some .seqS4)))).map (fun t => (t.cpsr, t.r13.usr, t.nextStep?)) =
      some (0x8000009F, 0x03007F00, some .seqS5) ∧
    (after (step (atSequencer 0x8000009F (some .seqS5)))).map (fun t => (t.gpr, t.nextStep?)) =
      some (Vector.replicate 13 0, some .seqS6) ∧
    (after (step { atSequencer 0x8000009F (some .seqS6) with mem := [] })).map
      (fun t => (t.pc, t.cpsr, t.rtrActive, t.nextStep?)) = some (0x08000000, 0x8000009F, false, none) := by decide +kernel

/-- T32: a flag byte that is not 0 when S6 reads it. -/
theorem test_flag_selects_ram :
    (after (step (atSequencer 0x8000009F (some .seqS6)))).map (·.pc) = some 0x02000000 := by decide +kernel

/-- The call row of SoftReset is the sequencer's first step (R186, R250(a)). -/
theorem test_softReset_call :
    (after (exec .callSoftReset (atSequencer 0x6000009F none))).map (fun t => (t.cpsr, t.r13.irq)) =
      some (0x60000092, 0x03007FA0) := by decide +kernel

/-! ### Witnesses: a state and operands that meet all the hypotheses of each statement

One theorem per statement with hypotheses, named test_hyps_<statement>; for a statement of several clauses one conjunct
per clause, at the ends of a clause's range. -/

theorem next_of_after {r : Result} (h : (after r).isSome = true) : ∃ t, r = .next t := by
  cases r with
  | next t => exact ⟨t, rfl⟩
  | fault e => cases h
  | refused e => cases h

theorem test_hyps_DecodeOfEncode :
    (Instr.swi 0xE 0x00002C).wellFormed = true ∧ (Instr.swi 0x0 0xFFFFFF).wellFormed = true ∧
      (Instr.callOutOfRange 0x2C).wellFormed = true ∧ (Instr.readReg 15).wellFormed = true := by decide

theorem test_hyps_EncodeOfDecodedArm32 : decodeArm32 0xEF00002B = .ok (.swiDebug 0xE 0) := rfl

theorem test_hyps_DecodedIsWellFormed : decode ⟨.callNum, [0x2C]⟩ = .ok (.callOutOfRange 0x2C, []) := rfl

theorem test_hyps_ReservedUopCodesRefused :
    12 ≤ (12 : Byte).toNat ∧ (12 : Byte).toNat ≤ 15 ∧ 12 ≤ (15 : Byte).toNat ∧ (15 : Byte).toNat ≤ 15 := by decide

theorem test_hyps_StepRunsPresentedInstruction :
    let s : State := { State.reset with requests := [⟨.uop, [5]⟩] }
    s.outcome = .running ∧ s.requests = ⟨.uop, [5]⟩ :: [] ∧ decode ⟨.uop, [5]⟩ = .ok (.readCpsr, []) := ⟨rfl, rfl, rfl⟩

theorem test_hyps_StepRunsFetchedInstruction :
    let s := guest 0x20000010 0xEF00002B
    s.RunsAtPc ∧ Psr.t s.cpsr = false ∧ s.nextStep? = none ∧ firmwareAt s.params s.pc = none ∧
      s.pc.extractLsb' 0 2 = 0 ∧ decodeArm32 (s.load4 s.pc).1 = .ok (.swiDebug 0xE 0) ∧ s.OrdinaryMem := by
  refine ⟨⟨rfl, rfl, rfl⟩, by decide +kernel, rfl, by decide +kernel, by decide +kernel, ?_, by decide⟩
  rw [show ((guest 0x20000010 0xEF00002B).load4 (guest 0x20000010 0xEF00002B).pc).1 = 0xEF00002B by decide +kernel]
  rfl

theorem test_hyps_StepTakesInterruptAtBoundary :
    let s (cpsr : Word) (l : Lines) : State := { start cpsr 0x08000204 with lines := [l] }
    ((s 0x1F ⟨true, true⟩).outcome = .running ∧ (s 0x1F ⟨true, true⟩).requests = [] ∧
      Psr.f (s 0x1F ⟨true, true⟩).cpsr = false) ∧
    (¬ (true = true ∧ Psr.f (s 0x5F ⟨true, true⟩).cpsr = false) ∧ Psr.i (s 0x5F ⟨true, true⟩).cpsr = false) := by
  decide +kernel

theorem test_hyps_MarkedStateHasNoNextState :
    ({ State.reset with outcome := .faulted .noSpsr } : State).outcome ≠ .running := by decide

theorem test_hyps_FirmwareSlotsAndBodies :
    State.reset.RunsNext (.part (.slot .reset)) ∧ (start 0x92 0x68).RunsNext (.part (.body .irq)) ∧
      (start 0x9F 0x204).RunsNext (.instr .callRegisterRamReset) ∧ (start 0x9F 0x58).RunsNext (.instr .routerResume) :=
  ⟨⟨⟨rfl, rfl, rfl⟩, by decide +kernel, by decide +kernel⟩, ⟨⟨rfl, rfl, rfl⟩, by decide +kernel, by decide +kernel⟩,
    ⟨⟨rfl, rfl, rfl⟩, by decide +kernel, by decide +kernel⟩, ⟨⟨rfl, rfl, rfl⟩, by decide +kernel, by decide +kernel⟩⟩

theorem test_hyps_DistinctAddressesDispatch : Params.distinct Params.e1 = true := by decide +kernel

theorem test_hyps_SlotBranchAgreesWithDispatch :
    let s : State := { start 0xD3 0x08 with mem := image [(0x08, 0xEA00000C)] }
    SlotInPlace s .swi ∧ s.pc = vectorAddress s.params .swi := by
  refine ⟨⟨0xC, ?_, by decide +kernel⟩, by decide +kernel⟩
  rw [show (State.load4 { start 0xD3 0x08 with mem := image [(0x08, 0xEA00000C)] }
    (vectorAddress ({ start 0xD3 0x08 with mem := image [(0x08, 0xEA00000C)] } : State).params .swi)).1 = 0xEA00000C by
    decide +kernel]
  rfl

theorem test_hyps_EnterModeChangesModeFieldOnly :
    ((start 0xDF 0).mode? = some .sys ∧ Mode.sys ≠ .usr) ∧ (start 0x10 0).mode? = some .usr := by decide +kernel

theorem test_hyps_SaveStatusCopiesCpsr :
    Mode.spsrBank? .fiq = some .fiq ∧ Mode.spsrBank? .und = some .und := by decide

theorem test_hyps_RestoreStatusIsOneStep :
    let s (cpsr spsr : Word) : State := { start cpsr 0 with spsr := ⟨0, 0, spsr, 0, 0⟩ }
    (Mode.spsrBank? .svc = some .svc ∧ (s 0x93 0x10).mode? = some .svc ∧ (Psr.mode? 0x10).isSome = true) ∧
    ((s 0x93 0).mode? = some .svc ∧ Psr.mode? 0 = none) ∧
    (Mode.irq ≠ .usr ∧ Mode.irq ≠ .sys ∧ (s 0x93 0).mode? ≠ some .irq) := by decide +kernel

theorem test_hyps_ReadRegThroughView :
    (start 0xD1 0).mode? = some .fiq ∧ (start 0x10 0).mode? = some .usr ∧ (start 0x05 0).mode? = none := by
  decide +kernel

theorem test_hyps_WriteRegThroughView :
    (start 0xD1 0).mode? = some .fiq ∧ (start 0x1F 0).mode? = some .sys ∧ (start 0x05 0).mode? = none := by
  decide +kernel

theorem test_hyps_WrittenRegisterReadsBack :
    (∃ t, exec (.writeReg 14 5) (start 0xD3 0) = .next t) ∧ (13 : Fin 16) ≠ 14 ∧
      exec (.readReg 13) (start 0xD3 0) = .next { start 0xD3 0 with reply := some 0 } :=
  ⟨⟨_, rfl⟩, by decide, rfl⟩

theorem test_hyps_WriteCpsrWritesMaskedFields :
    ((start 0xD3 0).mode? = some .svc ∧ Mode.svc ≠ .usr ∧ (Psr.mode? 0x00000053).isSome = true) ∧
    (start 0x10 0).mode? = some .usr := by decide +kernel

theorem test_hyps_WriteCpsrInvalidModeFaults :
    (start 0xD3 0).mode? = some .svc ∧ Mode.svc ≠ .usr ∧ Psr.mode? 0 = none := by decide +kernel

theorem test_hyps_StatusWordAccess :
    ((start 0xD2 0).mode? = some .irq ∧ Mode.spsrBank? .irq = some .irq) ∧ (start 0xDF 0).mode? = some .sys ∧
      (start 0x10 0).mode? = some .usr := by decide +kernel

theorem test_hyps_SynchronousTrapEntry :
    TrapKind.und ∈ [TrapKind.und, .swi, .pabt, .dabt, .rsvd] ∧ TrapKind.rsvd ∈ [TrapKind.und, .swi, .pabt, .dabt, .rsvd] :=
  by decide

theorem test_hyps_InterruptEntryUnlessMasked :
    (Psr.i (start 0x10 0).cpsr = false ∧ Psr.f (start 0x10 0).cpsr = false) ∧
    (Psr.i (start 0xD3 0).cpsr = true ∧ Psr.f (start 0xD3 0).cpsr = true) := by decide +kernel

theorem test_hyps_LinkPlusAdjustmentIsResumption :
    TrapKind.adjustment? .und = some .zero ∧ TrapKind.adjustment? .fiq = some .minus4 := by decide

theorem test_hyps_BoundarySamplesLines :
    let s (cpsr : Word) (l : Lines) : State := { start cpsr 0 with lines := [l] }
    ((s 0x9F ⟨true, false⟩).lines = ⟨true, false⟩ :: [] ∧ Psr.f (s 0x9F ⟨true, false⟩).cpsr = false) ∧
    (¬ (true = true ∧ Psr.f (s 0x5F ⟨true, true⟩).cpsr = false) ∧ Psr.i (s 0x5F ⟨true, true⟩).cpsr = false) ∧
    (¬ (true = true ∧ Psr.f (s 0xDF ⟨true, true⟩).cpsr = false) ∧
      ¬ (true = true ∧ Psr.i (s 0xDF ⟨true, true⟩).cpsr = false)) ∧ (start 0x10 0).lines = [] := by decide +kernel

theorem test_hyps_ReturnOfEachKind :
    let s (cpsr : Word) : State := { start cpsr 0 with spsr := ⟨0x10, 0x1F, 0x13, 0x1B, 0x17⟩ }
    ((s 0xDB).mode? = some .und ∧ (Psr.mode? (s 0xDB).spsr.und).isSome = true) ∧
    ((s 0xD3).mode? = some .svc ∧ (Psr.mode? (s 0xD3).spsr.svc).isSome = true) ∧
    ((s 0xD7).mode? = some .abt ∧ (Psr.mode? (s 0xD7).spsr.abt).isSome = true) ∧
    ((s 0xD2).mode? = some .irq ∧ (Psr.mode? (s 0xD2).spsr.irq).isSome = true) ∧
    ((s 0xD1).mode? = some .fiq ∧ (Psr.mode? (s 0xD1).spsr.fiq).isSome = true) ∧
    (TrapKind.adjustment? .swi = some .zero ∧ (start 0x93 0).mode? = some (TrapKind.entryMode .swi) ∧
      Psr.mode? ((start 0x93 0).spsr.get (TrapKind.entryBank .swi)) = none) := by decide +kernel

theorem test_hyps_ReturnInWrongModeFaults :
    TrapKind.und ≠ .reset ∧ (start 0xD3 0).mode? ≠ some (TrapKind.entryMode .und) ∧
      (start 0x05 0).mode? ≠ some (TrapKind.entryMode .und) := by decide +kernel

theorem test_hyps_ReturnWordUsesVisibleBank :
    let s : State := { start 0xD1 0 with spsr := ⟨0x10, 0, 0, 0, 0⟩ }
    (s.mode? = some .fiq ∧ Mode.spsrBank? .fiq = some .fiq ∧ (Psr.mode? (s.spsr.get .fiq)).isSome = true) ∧
      Psr.mode? ((start 0xD1 0).spsr.get .fiq) = none ∧ (start 0x10 0).mode? = some .usr ∧ (start 0xDF 0).mode? = some .sys := by decide +kernel

theorem test_hyps_EntryThenReturnRestores :
    TrapKind.fiq ≠ .reset ∧ (start 0x10 0).mode?.isSome = true ∧ (start 0x10 0).masked .fiq = false ∧
      (∃ u, exec (.trapReq .fiq 0x08000100) (start 0x10 0) = .next u) ∧
      ∃ u, exec (.trapReq .fiq 0x40) (nextIs (start 0x93 0x40) .routerRead) = .next u :=
  ⟨by decide, rfl, rfl, ⟨_, rfl⟩, _, rfl⟩

/-- The clauses on the step that is next: an FIQ between the router's steps, and an RSVD entry, which overwrites
Supervisor's cells (R292), between the sequencer's. -/
theorem test_hyps_EntryThenReturnRestores_pending :
    let s := nextIs (start 0x93 0x40) .routerRead
    let r := nextIs (start 0x93 0x300) .seqS3
    ((after (exec .excReturnFiq (s.enterTrap .fiq 0x40))).map (·.pc) = some s.pc ∧ s.pc ≠ vectorAddress s.params .fiq ∧
      TrapKind.entryBank .fiq ≠ .svc) ∧
    ((after (exec (returnRow .rsvd) (r.enterTrap .rsvd 0x300))).map (·.pc) = some r.pc ∧
      r.pc ≠ vectorAddress r.params .rsvd) := by decide +kernel

theorem test_hyps_NestedTrapKeepsOuterReturn :
    TrapKind.entryBank .dabt ≠ TrapKind.entryBank .fiq ∧ (start 0x10 0).mode?.isSome = true ∧
      (start 0x10 0).masked .dabt = false ∧
      ∃ u v w : State, exec (.trapReq .dabt 0x08000300) (start 0x10 0) = .next u ∧ u.masked .fiq = false ∧
        exec (.trapReq .fiq 0x10) u = .next v ∧ exec (returnRow .fiq) v = .next w :=
  ⟨by decide, rfl, rfl, (start 0x10 0).enterTrap .dabt 0x08000300,
    ((start 0x10 0).enterTrap .dabt 0x08000300).enterTrap .fiq 0x10, _, rfl, rfl, rfl, rfl⟩

theorem test_hyps_SwiAlwaysRaisesTrap : swiTable.head? = some Instr.swiSoftReset ∧ swiTable.getLast? = some Instr.swiDebug :=
  ⟨rfl, rfl⟩

theorem test_hyps_ConditionalSwiRaisesOrSkips : swiTable[6]? = some Instr.swiDiv := rfl

theorem test_hyps_RouterChecksAndPush :
    let s := atRouter 0x20000010 0xEF00002B
    (s.RunsNext (.part .router) ∧ s.memWf = true ∧ s.mode? = some .svc ∧ s.rtrActive = false ∧
      Psr.t s.spsr.svc = false ∧ s.OrdinaryMem) ∧
    ({ s with cpsr := 0x92 } : State).RunsNext (.part .router) ∧ ({ s with cpsr := 0x92 } : State).mode? ≠ some .svc ∧
    ({ s with rtrActive := true } : State).RunsNext (.part .router) ∧
    ((atRouter 0x30 0xEF00002B).RunsNext (.part .router) ∧ Psr.t (atRouter 0x30 0xEF00002B).spsr.svc = true) :=
  ⟨⟨⟨⟨rfl, rfl, rfl⟩, by decide +kernel, by decide +kernel⟩, by decide +kernel, by decide +kernel, rfl,
      by decide +kernel, by decide⟩,
    ⟨⟨rfl, rfl, rfl⟩, by decide +kernel, by decide +kernel⟩, by decide +kernel,
    ⟨⟨rfl, rfl, rfl⟩, by decide +kernel, by decide +kernel⟩,
    ⟨⟨⟨rfl, rfl, rfl⟩, by decide +kernel, by decide +kernel⟩, by decide +kernel⟩⟩

theorem test_hyps_RouterReadsCallNumber :
    let s : State := nextIs (atRouter 0x20000010 0xEF00002B) .routerRead
    s.RunsNext (.part (.micro .routerRead)) ∧ s.OrdinaryMem :=
  ⟨⟨⟨rfl, rfl, rfl⟩, by decide +kernel, by decide +kernel⟩, by decide⟩

theorem test_hyps_RouterEntersSystemMode :
    let s : State := nextIs (atRouter 0x20000010 0xEF00002B) (.routerMode 0x2B)
    s.RunsNext (.part (.micro (.routerMode 0x2B))) ∧ ∃ m, s.mode? = some m ∧ m ≠ .usr :=
  ⟨⟨⟨rfl, rfl, rfl⟩, by decide +kernel, by decide +kernel⟩, .svc, by decide +kernel, by decide⟩

/-- The router about to call number n in P1's run. -/
def atCall (n : Byte) : State := nextIs (guest 0x2000009F 0xEF00002B) (.routerCall n)

theorem atCall_mem (n : Byte) : (atCall n).mem = guestMem 0xEF00002B := by
  simp only [atCall, nextIs, State.followedBy, guest]

theorem test_hyps_RouterCallsTableEntry :
    ((atCall 0x2B).mode? = some .sys ∧ (atCall 0x2B).OrdinaryMem ∧ (0x2B : Byte).toNat ≤ 0x2B ∧
      (atCall 0x2B).RunsNext (.part (.micro (.routerCall 0x2B)))) ∧
    ((atCall 0xFF).params.oorPolicy = .faithful ∧ 0x2B < (0x2C : Byte).toNat ∧
      ({ atCall 0x2C with params := { e1Launched with oorPolicy := .fatal } } : State).RunsNext
        (.part (.micro (.routerCall 0x2C)))) :=
  ⟨⟨by decide +kernel, by decide, by decide, ⟨⟨rfl, rfl, rfl⟩, by decide +kernel, by decide +kernel⟩⟩,
    ⟨rfl, by decide, ⟨⟨rfl, rfl, rfl⟩, by decide +kernel, by decide +kernel⟩⟩⟩

/-- The table image holds what ImageInPlace asks for, beside the words 0xEF00002B and 0xEF000001. -/
theorem table_in_place : ∀ n : Fin 44,
    Memory.read4 (fun _ => 0) (guestMem 0xEF00002B) (callSlot e1Launched (BitVec.ofNat 8 n.val)) = Params.e1.hCall[n] ∧
      Memory.read4 (fun _ => 0) (guestMem 0xEF000001) (callSlot e1Launched (BitVec.ofNat 8 n.val)) =
        Params.e1.hCall[n] := by
  decide +kernel

theorem guest_mem (cpsr w : Word) : (guest cpsr w).mem = guestMem w := by simp only [guest]

theorem imageInPlace_of {s : State} {m : List Host.Cell} (hm : s.mem = m) (hp : s.params = e1Launched)
    (h : ∀ n : Fin 44, Memory.read4 (fun _ => 0) m (callSlot e1Launched (BitVec.ofNat 8 n.val)) = Params.e1.hCall[n]) :
    ImageInPlace s := by
  intro n
  rw [load4_ordinary (by rw [hp]; decide)]
  simp only [State.wordAt, State.unlisted, hm, hp]
  exact h n

theorem test_hyps_RouterResolvesToHandler :
    ImageInPlace (atCall 0x2B) ∧ (atCall 0x2B).mode?.isSome = true ∧
    (atCall 0x00).RunsNext (.part (.micro (.routerCall 0x00))) ∧
    (atCall 0x2B).RunsNext (.part (.micro (.routerCall 0x2B))) :=
  ⟨imageInPlace_of (atCall_mem 0x2B) rfl fun n => (table_in_place n).1, by decide +kernel,
    ⟨⟨rfl, rfl, rfl⟩, by decide +kernel, by decide +kernel⟩, ⟨⟨rfl, rfl, rfl⟩, by decide +kernel, by decide +kernel⟩⟩

theorem test_hyps_RouterResumeReturns :
    let s (cpsr popped : Word) : State := { start cpsr 0x58 with
      r13 := ⟨0x03007F00, 0, 0, 0x03007FDC, 0, 0⟩, rtrActive := true, mem := image [(0x03007FDC, popped)] }
    ((s 0x9F 0x10).rtrActive = true ∧ (s 0x9F 0x10).mode? = some .sys ∧ (s 0x93 0x10).mode? = some .svc ∧
      (s 0x9F 0x10).OrdinaryMem ∧ (Psr.mode? ((s 0x9F 0x10).load4 (s 0x9F 0x10).r13.svc).1).isSome = true) ∧
    Psr.mode? ((s 0x9F 0x05).load4 (s 0x9F 0x05).r13.svc).1 = none ∧ (s 0x10 0x10).mode? = some .usr ∧
    (s 0x05 0x10).mode? = none ∧ State.reset.rtrActive = false := by decide +kernel

theorem test_hyps_PlaceholderReturnsAtOnce :
    (inHandler 0x204 100).mode? = some .sys ∧ placeholderCalls.head? = some .callRegisterRamReset ∧
      placeholderCalls.getLast? = some .callSoundGetJumpList ∧ placeholderCalls.length = 42 := by decide +kernel

theorem test_hyps_DebugWritesDiagnosticWord :
    let s := inHandler 0x2AC 0xCAFEBABE
    s.mode? = some .sys ∧ s.memWf = true ∧ s.OrdinaryMem := by decide +kernel

theorem test_hyps_SoftResetStartsWithS1 : ∃ m, (atSequencer 0x6000009F none).mode? = some m ∧ m ≠ .usr :=
  ⟨.sys, by decide +kernel, by decide⟩

theorem test_hyps_S5ZeroesRegisters :
    let s := atSequencer 0x8000009F (some .seqS5)
    s.RunsNext (.part (.micro .seqS5)) ∧ s.mode? = some .sys :=
  ⟨⟨⟨rfl, rfl, rfl⟩, by decide +kernel, by decide +kernel⟩, by decide +kernel⟩

theorem test_hyps_SoftResetPostcondition :
    let s := atSequencer 0x8000009B none
    let c : State := { s with params := { s.params with hCall := s.params.hCall.set 0 0x304 }, pc := 0x304, cpsr := 0x9F }
    (s.RunsAtPc ∧ s.lines = [] ∧ Psr.t s.cpsr = false ∧ s.OrdinaryMem ∧ s.memWf = true ∧ s.selected = .part .sequencer ∧
      ∃ m, s.mode? = some m ∧ m ≠ .usr) ∧ c.selected = .instr .callSoftReset :=
  ⟨⟨⟨rfl, rfl, rfl⟩, rfl, by decide +kernel, by decide, by decide +kernel, by decide +kernel, .und, by decide +kernel,
    by decide⟩, by decide +kernel⟩

theorem test_hyps_SoftResetIdempotent :
    let s := atSequencer 0x8000009B none
    s.RunsAtPc ∧ s.lines = [] ∧ Psr.t s.cpsr = false ∧ s.OrdinaryMem ∧ s.memWf = true ∧ s.selected = .part .sequencer ∧
      ∃ t, runFor 6 s = .next t :=
  ⟨⟨rfl, rfl, rfl⟩, rfl, by decide +kernel, by decide, by decide +kernel, by decide +kernel,
    next_of_after (by decide +kernel)⟩

theorem test_hyps_FlagInClearRangeSelectsRom :
    (Params.e1.entryFlagAddr - Params.e1.wramClearBase).toNat < 0x200 ∧
      ∃ t, runFor 6 (atSequencer 0x600000D3 none) = .next t := ⟨by decide, next_of_after (by decide +kernel)⟩

theorem dispatches_e1 : Params.Dispatches e1Launched :=
  ⟨by intro k; cases k <;> decide +kernel, by intro k; cases k <;> decide +kernel, by decide +kernel, by decide +kernel⟩

theorem test_hyps_RoutedPlaceholderNetEffect :
    let s := guest 0x20000010 0xEF000001
    s.OrdinaryMem ∧ s.Inv ∧ s.requests = [] ∧ s.lines = [] ∧ Psr.t s.cpsr = false ∧ s.nextStep? = none ∧
      s.rtrActive = false ∧ Params.Dispatches s.params ∧ ImageInPlace s ∧ firmwareAt s.params s.pc = none ∧
      s.pc.extractLsb' 0 2 = 0 ∧ s.wordAt s.pc = swiWord 0xE ((0 : BitVec 16) ++ BitVec.ofNat 8 1) ∧
      wordsApart (s.r13.svc - 4) s.pc ∧ wordsApart (s.r13.svc - 4) (callSlot s.params (BitVec.ofNat 8 1)) :=
  ⟨by decide, ⟨rfl, by decide +kernel, by decide +kernel⟩, rfl, rfl, by decide +kernel, rfl, rfl, dispatches_e1,
    imageInPlace_of (guest_mem _ 0xEF000001) rfl fun n => (table_in_place n).2, by decide +kernel, by decide +kernel,
    by decide +kernel, ⟨by decide +kernel, by decide +kernel⟩, ⟨by decide +kernel, by decide +kernel⟩⟩

theorem test_hyps_RoutedDebugNetEffect :
    let s := guest 0x20000010 0xEF00002B
    s.OrdinaryMem ∧ s.Inv ∧ s.requests = [] ∧ s.lines = [] ∧ Psr.t s.cpsr = false ∧ s.nextStep? = none ∧
      s.rtrActive = false ∧ Params.Dispatches s.params ∧ ImageInPlace s ∧ firmwareAt s.params s.pc = none ∧
      s.pc.extractLsb' 0 2 = 0 ∧ s.wordAt s.pc = swiWord 0xE ((0 : BitVec 16) ++ 0x2B#8) ∧
      wordsApart (s.r13.svc - 4) s.pc ∧ wordsApart (s.r13.svc - 4) (callSlot s.params 0x2B) ∧
      wordsApart (s.r13.svc - 4) s.params.diagAddr :=
  ⟨by decide, ⟨rfl, by decide +kernel, by decide +kernel⟩, rfl, rfl, by decide +kernel, rfl, rfl, dispatches_e1,
    imageInPlace_of (guest_mem _ 0xEF00002B) rfl fun n => (table_in_place n).1, by decide +kernel, by decide +kernel,
    by decide +kernel, ⟨by decide +kernel, by decide +kernel⟩, ⟨by decide +kernel, by decide +kernel⟩,
    ⟨by decide +kernel, by decide +kernel⟩⟩

theorem test_hyps_StepKeepsInvariant : (guest 0x20000010 0xEF00002B).Inv ∧
    ∃ t, step (guest 0x20000010 0xEF00002B) = .next t :=
  ⟨⟨rfl, by decide +kernel, by decide +kernel⟩, next_of_after (by decide +kernel)⟩

theorem test_hyps_ParametersNeverChange : ∃ t, step State.reset = .next t := next_of_after (by decide +kernel)

theorem test_hyps_UserModeLeftOnlyByTrap :
    (guest 0x20000010 0xEF00002B).mode? = some .usr ∧ ∃ t : State, step (guest 0x20000010 0xEF00002B) = .next t ∧
      t.mode? ≠ some .usr := by
  refine ⟨by decide +kernel, ?_⟩
  have h : (after (step (guest 0x20000010 0xEF00002B))).map State.mode? = some (some .svc) := by decide +kernel
  obtain ⟨t, ht⟩ := next_of_after (r := step (guest 0x20000010 0xEF00002B)) (by decide +kernel)
  rw [ht] at h
  exact ⟨t, ht, by rw [show t.mode? = some .svc from Option.some.inj h]; decide⟩

theorem test_hyps_MemoryWrittenOnlyAsListed :
    (∃ t, step (atRouter 0x20000010 0xEF00002B) = .next t) ∧ (∃ t, step (inHandler 0x2AC 0xCAFEBABE) = .next t) ∧
      (∃ t, step (atSequencer 0x80000093 (some .seqS3)) = .next t) ∧ (start 0 0).OrdinaryMem ∧
      (∃ t : State, step (inHandler 0x2AC 0xCAFEBABE) = .next t ∧ t.mem ≠ (inHandler 0x2AC 0xCAFEBABE).mem) := by
  refine ⟨next_of_after (by decide +kernel), next_of_after (by decide +kernel), next_of_after (by decide +kernel),
    by decide, ?_⟩
  have h : (after (step (inHandler 0x2AC 0xCAFEBABE))).map (fun t => t.byteAt 0x04FFFFF0) = some 0xBE := by
    decide +kernel
  have h0 : (inHandler 0x2AC 0xCAFEBABE).mem = [] := rfl
  have hp : (after (step (inHandler 0x2AC 0xCAFEBABE))).map State.params = some e1Launched := by decide +kernel
  obtain ⟨t, ht⟩ := next_of_after (r := step (inHandler 0x2AC 0xCAFEBABE)) (by decide +kernel)
  rw [ht] at h hp
  refine ⟨t, ht, fun he => ?_⟩
  have h1 := Option.some.inj h
  have hp1 : t.params = e1Launched := Option.some.inj hp
  simp only [State.byteAt, State.unlisted, he, h0, hp1] at h1
  exact absurd h1 (by decide)

theorem test_hyps_FlagsAreOnlyMoved :
    ∃ t, step { start 0x10 0 with requests := [⟨.uop, [6, 0, 0, 0, 0xF0, 1, 0, 0, 0]⟩] } = .next t :=
  next_of_after (by decide +kernel)

theorem test_hyps_LatchesWrittenOnlyByRouter :
    let s : State := nextIs { atRouter 0x20000010 0xEF00002B with cpsr := 0x2000009F } (.routerCall 0x2B)
    s.rtrActive = false ∧ ∃ t : State, step s = .next t ∧ t.rtrActive = true ∧ t.rtrLrSave ≠ s.rtrLrSave := by
  refine ⟨rfl, ?_⟩
  have h : (after (step (nextIs { atRouter 0x20000010 0xEF00002B with cpsr := 0x2000009F } (.routerCall 0x2B)))).map (fun t => (t.rtrActive, t.rtrLrSave)) =
      some (true, 0x08000321) := by decide +kernel
  obtain ⟨t, ht⟩ := next_of_after (r := step (nextIs { atRouter 0x20000010 0xEF00002B with cpsr := 0x2000009F } (.routerCall 0x2B))) (by decide +kernel)
  rw [ht] at h
  have h := Prod.mk.inj (Option.some.inj h)
  exact ⟨t, ht, h.1, by rw [h.2]; decide⟩

/-- The second clause: S6 clears `rtr_active`. -/
theorem test_hyps_LatchesWrittenOnlyByRouter_cleared :
    ∃ t : State, step (atSequencer 0x8000009F (some .seqS6)) = .next t ∧
      (atSequencer 0x8000009F (some .seqS6)).rtrActive = true ∧ t.rtrActive = false := by
  have h : (after (step (atSequencer 0x8000009F (some .seqS6)))).map (·.rtrActive) = some false := by decide +kernel
  obtain ⟨t, ht⟩ := next_of_after (r := step (atSequencer 0x8000009F (some .seqS6))) (by decide +kernel)
  rw [ht] at h
  exact ⟨t, ht, rfl, Option.some.inj h⟩

end Sys2Proof.Tests
end

section
/-! PROOFS. The scope family: the step around exec, the firmware dispatch, and the parameters (00_scope.md). -/

namespace Sys2Proof.Machine

/-! ### The step around exec -/

/-- Settles O6: a presented instruction runs before any boundary, so the step is its branch of `stepRunning`. -/
theorem stepRunsPresentedInstruction : Obligations.StepRunsPresentedInstruction := by
  intro s q qs i rest hrun hreq hdec
  simp only [step, hrun, stepRunning, hreq, hdec]

/-- Settles O9: only a state without a mark has a next state (`step_next`). -/
theorem markedStateHasNoNextState : Obligations.MarkedStateHasNoNextState :=
  fun _ _ hmark hstep => hmark (step_next hstep).1

/-! ### The firmware dispatch (R10, R290)

The dispatch answers rows of the map R10 speaks of, and answers one at every address of the map; what R10 then says of
two rows at one address gives the behaviour it answers. -/

theorem mem_trapKinds (k : TrapKind) : k ∈ trapKinds := by cases k <;> decide

/-- The row of `decodeCall` for a call number of the table. -/
theorem decodeCall_ofNat (n : Fin 44) : decodeCall (BitVec.ofNat 8 n.val) = callTable[n] := by
  revert n; decide

section FirmwareMap

variable {p : Params}

theorem slot_mem_firmwareMap (k : TrapKind) : (vectorAddress p k, .part (.slot k)) ∈ Params.firmwareMap p := by
  simp [Params.firmwareMap, mem_trapKinds]

theorem handler_mem_firmwareMap (k : TrapKind) : (handlerEntry p k, .part (handlerPart k)) ∈ Params.firmwareMap p := by
  simp only [Params.firmwareMap, List.mem_append, List.mem_map]
  exact .inl (.inl (.inr ⟨k, mem_trapKinds k, rfl⟩))

theorem call_mem_firmwareMap (n : Fin 44) :
    (p.hCall[n], .instr (decodeCall (BitVec.ofNat 8 n.val))) ∈ Params.firmwareMap p := by
  have hrow : (p.hCall[n], Selected.instr (decodeCall (BitVec.ofNat 8 n.val))) ∈
      List.zipWith (fun a i => (a, Selected.instr i)) p.hCall.toList callTable := by
    refine List.mem_iff_getElem.mpr ⟨n.val, by simp [callTable], ?_⟩
    simp [decodeCall_ofNat]
  simp only [Params.firmwareMap, List.mem_append]
  exact .inl (.inr hrow)

theorem routerRet_mem_firmwareMap : (p.routerRet, .instr .routerResume) ∈ Params.firmwareMap p := by
  simp [Params.firmwareMap]

/-- What the dispatch answers at an address is a row of the map at that address. -/
theorem mem_firmwareMap_of_firmwareAt {a : Word} {x : Selected} (h : firmwareAt p a = some x) :
    (a, x) ∈ Params.firmwareMap p := by
  unfold firmwareAt at h
  split at h
  next k hk =>
    cases h
    have ha : a = vectorAddress p k := by simpa using List.find?_some hk
    exact ha ▸ slot_mem_firmwareMap k
  next =>
    split at h
    next k hk =>
      cases h
      have ha : a = handlerEntry p k := by simpa using List.find?_some hk
      exact ha ▸ handler_mem_firmwareMap k
    next =>
      split at h
      next n hn =>
        cases h
        obtain ⟨hlt, ha, -⟩ := List.findIdx?_eq_some_iff_getElem.mp hn
        have ha : a = p.hCall[n]'(by simpa using hlt) := by simpa using ha
        exact ha ▸ call_mem_firmwareMap ⟨n, by simpa using hlt⟩
      next =>
        split at h
        next ha => cases h; exact ha ▸ routerRet_mem_firmwareMap
        next => cases h

/-- Where the dispatch answers nothing no firmware stands: "anything else" of R290's table. -/
theorem firmwareAt_none {a : Word} (h : firmwareAt p a = none) :
    (∀ k, a ≠ vectorAddress p k) ∧ (∀ k, a ≠ handlerEntry p k) ∧ a ∉ p.hCall.toList ∧ a ≠ p.routerRet := by
  unfold firmwareAt at h
  split at h
  next => cases h
  next hslot =>
    split at h
    next => cases h
    next hentry =>
      split at h
      next => cases h
      next hcall =>
        simp only [List.find?_eq_none, decide_eq_true_eq] at hslot hentry
        exact ⟨fun k => hslot k (mem_trapKinds k), fun k => hentry k (mem_trapKinds k),
          fun hmem => absurd (List.findIdx?_eq_none_iff.mp hcall a hmem) (by simp), by simpa using h⟩

/-- The dispatch answers something at every address of the map. -/
theorem exists_firmwareAt_of_mem {a : Word} {y : Selected} (h : (a, y) ∈ Params.firmwareMap p) :
    ∃ x, firmwareAt p a = some x := by
  refine Option.ne_none_iff_exists'.mp fun hnone => ?_
  obtain ⟨hslot, hentry, hcall, hret⟩ := firmwareAt_none hnone
  simp only [Params.firmwareMap, List.mem_append, List.mem_map, List.mem_singleton] at h
  rcases h with ((⟨k, -, heq⟩ | ⟨k, -, heq⟩) | hz) | heq
  · exact hslot k (congrArg Prod.fst heq).symm
  · exact hentry k (congrArg Prod.fst heq).symm
  · rw [← List.map_uncurry_zip_eq_zipWith] at hz
    obtain ⟨⟨b, i⟩, hbi, heq⟩ := List.mem_map.mp hz
    cases heq
    exact hcall (List.of_mem_zip hbi).1
  · exact hret (congrArg Prod.fst heq)

/-- R10: rows of the map at one address select the same behaviour. -/
theorem behaviour_eq_of_distinct (hd : Params.distinct p = true) {a : Word} {x y : Selected}
    (hx : (a, x) ∈ Params.firmwareMap p) (hy : (a, y) ∈ Params.firmwareMap p) : x.behaviour = y.behaviour := by
  have h := List.all_eq_true.mp (List.all_eq_true.mp hd _ hx) _ hy
  simpa using h

/-- The dispatch finds the behaviour of every row of the map at the row's address. -/
theorem firmwareAt_behaviour (hd : Params.distinct p = true) {a : Word} {y : Selected} (hy : (a, y) ∈ Params.firmwareMap p) :
    ∃ x, firmwareAt p a = some x ∧ x.behaviour = y.behaviour := by
  obtain ⟨x, hx⟩ := exists_firmwareAt_of_mem hy
  exact ⟨x, hx, behaviour_eq_of_distinct hd (mem_firmwareMap_of_firmwareAt hx) hy⟩

/-- The handler entries are tried before the call handlers: no call row, and so not the row of call 0x00, is answered
at one of them. -/
theorem firmwareAt_handlerEntry_part (k : TrapKind) : ∃ q, firmwareAt p (handlerEntry p k) = some (.part q) := by
  unfold firmwareAt
  split
  next k' _ => exact ⟨.slot k', rfl⟩
  next =>
    split
    next k' _ => exact ⟨handlerPart k', rfl⟩
    next hnone => exact absurd (List.find?_eq_none.mp hnone k (mem_trapKinds k)) (by simp)

end FirmwareMap

theorem Selected.behaviour_instr (i : Instr) : (Selected.instr i).behaviour =
    if i = .callSoftReset then .part .sequencer
    else if placeholderCalls.contains i then .instr .callHalt else .instr i := rfl

/-- Only call 0x00's row is taken for a firmware part, and that part is the sequencer. -/
theorem Selected.eq_part_of_behaviour {x : Selected} {q : Part} (hq : q ≠ .sequencer)
    (h : x.behaviour = .part q) : x = .part q := by
  cases x with
  | instr i =>
    rw [Selected.behaviour_instr] at h
    split at h
    next => cases h; exact absurd rfl hq
    next => split at h <;> cases h
  | part _ | fetched _ | executor => exact h

/-- Only the placeholders are taken as one, and `ROUTER_RET`'s row is none of them. -/
theorem Selected.eq_routerResume_of_behaviour {x : Selected} (h : x.behaviour = .instr .routerResume) :
    x = .instr .routerResume := by
  cases x with
  | instr i =>
    rw [Selected.behaviour_instr] at h
    split at h
    next => cases h
    next =>
      split at h
      next => cases h
      next => exact h
  | part _ | fetched _ | executor => exact h

/-- Settles O11: the dispatch finds the behaviour of each row of the map, and for the slots, the handler entries and
`ROUTER_RET` the behaviour determines the row. -/
theorem distinctAddressesDispatch : Obligations.DistinctAddressesDispatch := by
  intro p hd
  refine ⟨fun k => ?_, fun k => ?_, fun n => ?_, ?_⟩
  · obtain ⟨x, hx, hb⟩ := firmwareAt_behaviour hd (slot_mem_firmwareMap k)
    rw [hx, Selected.eq_part_of_behaviour (by simp) hb]
  · obtain ⟨x, hx, hb⟩ := firmwareAt_behaviour hd (handler_mem_firmwareMap k)
    obtain ⟨q, hq⟩ := firmwareAt_handlerEntry_part (p := p) k
    cases hx.symm.trans hq
    exact hq.trans (congrArg some hb)
  · obtain ⟨x, hx, hb⟩ := firmwareAt_behaviour hd (call_mem_firmwareMap n)
    rw [hx, Option.map_some, hb]
  · obtain ⟨x, hx, hb⟩ := firmwareAt_behaviour hd routerRet_mem_firmwareMap
    rw [hx, Selected.eq_routerResume_of_behaviour hb]

/-! ### The parameters (R9, R38) -/

theorem atBoundary_params (s : State) (a : Word) : (s.atBoundary a).params = s.params := by
  obtain ⟨k, -, -, ht⟩ | ⟨-, ht⟩ := atBoundary_cases s a <;> simp [ht]

theorem routerCall_params {s t : State} {n : Byte} (h : s.routerCall n = .next t) : t.params = s.params := by
  obtain ⟨m, -, rfl⟩ := routerCall_next h
  simp

/-- No firmware step changes a parameter. -/
theorem PartEffect.params_eq {s t : State} {p : Part} (h : PartEffect s p t) : t.params = s.params := by
  cases h with
  | slot | mode => rfl
  | push _ h => obtain ⟨-, -, -, rfl⟩ := routerStart_next h; simp
  | number _ h => rw [routerRead_next h]; simp
  | call _ _ h => exact routerCall_params h
  | body _ _ h => obtain ⟨b, pc, rfl, -, -⟩ := excReturn_shape h; rfl
  | clear _ h => rw [sequencerS3_next h]; simp
  | zero _ h => cases next_inj h; unfold State.zeroR0toR12; split <;> rfl
  | leave _ h => rw [sequencerS6_next h]; simp

/-- No instruction changes a parameter. -/
theorem Effect.params_eq {s t : State} {i : Instr} (h : Effect s i t) : t.params = s.params := by
  cases h with
  | masked | trap | mode | spsr | ret | reply | cpsr | jump => rfl
  | reg _ _ _ _ h => rw [setX_next h]
  | boundary a => exact atBoundary_params s a
  | debug => simp
  | call _ _ h => exact routerCall_params h
  | resume _ h => rw [(routerResume_shape h).1]
  | softReset _ h => exact (runPart_effect (p := .sequencer) h).params_eq

/-- Settles O56, over the ways a step can go: an instruction presented, at `PC` or fetched, an interrupt, a firmware step. -/
theorem parametersNeverChange : Obligations.ParametersNeverChange := by
  intro s t h
  obtain ⟨-, ⟨q, rest, i, bytes, -, -, hex⟩ | ⟨k, -, -, rfl⟩ | ⟨i, -, -, -, hex⟩ | ⟨i, -, -, -, hex⟩ |
    ⟨p, -, -, -, hpart⟩⟩ := step_next h
  · exact (exec_effect hex).params_eq
  · exact atBoundary_params s s.pc
  · exact (exec_effect hex).params_eq
  · simpa using (exec_effect hex).params_eq
  · exact (runPart_effect hpart).params_eq

end Sys2Proof.Machine
end

section
/-! PROOFS. The state family: the machine's invariant, the flags, the register view, the router's latches, the reset
state, and the state SoftReset ends in (10_state.md). -/

namespace Sys2Proof.Machine

/-! ### The invariant (R21, R37; log 4) -/

/-- The canonical form of memory is a property of the parameters and the contents alone. -/
theorem memWf_congr {s t : State} (hp : t.params = s.params) (hm : t.mem = s.mem) : t.memWf = s.memWf := by
  simp only [State.memWf, State.unlisted, hp, hm]

theorem State.Inv.enterTrap {s : State} (hs : s.Inv) (k : TrapKind) (a : Word) : (s.enterTrap k a).Inv := by
  obtain ⟨ho, -, hw⟩ := hs
  exact ⟨ho, by simp, hw⟩

theorem State.Inv.atBoundary {s : State} (hs : s.Inv) (a : Word) : (s.atBoundary a).Inv := by
  obtain ⟨k, -, -, ht⟩ | ⟨-, ht⟩ := atBoundary_cases s a
  · rw [ht]; exact State.Inv.enterTrap (s := s.sampled) hs k a
  · rw [ht]; exact hs

theorem State.Inv.load4 {s : State} (hs : s.Inv) (a : Word) : (s.load4 a).2.Inv := by
  obtain ⟨ho, hm, hw⟩ := hs
  exact ⟨by simpa using ho, by simpa [State.mode?] using hm, load4_memWf hw a⟩

theorem State.Inv.store4 {s : State} (hs : s.Inv) (a v : Word) : (s.store4 a v).Inv := by
  obtain ⟨ho, hm, hw⟩ := hs
  exact ⟨by simpa using ho, by simpa [State.mode?] using hm, store4_memWf hw a v⟩

theorem State.Inv.routerCall {s t : State} {n : Byte} (hs : s.Inv) (h : s.routerCall n = .next t) : t.Inv := by
  obtain ⟨m, -, rfl⟩ := routerCall_next h
  exact hs.load4 _

/-- A handler body leaves canonical memory whatever the open transformer answers (log 11). -/
theorem State.Inv.handlerBody {s : State} (hs : s.Inv) (k : TrapKind) : (s.handlerBody k).Inv := by
  obtain ⟨ho, hm, -⟩ := hs
  exact ⟨ho, hm, Memory.wf_ofCells _⟩

/-- Every firmware step keeps the invariant. -/
theorem PartEffect.inv {s t : State} {p : Part} (h : PartEffect s p t) (hs : s.Inv) : t.Inv := by
  have ⟨ho, hm, hw⟩ := hs
  cases h with
  | slot => exact hs
  | mode _ m => exact ⟨ho, by simp [State.mode?, Psr.mode?_withMode], hw⟩
  | push _ h =>
    obtain ⟨-, -, -, rfl⟩ := routerStart_next h
    exact hs.store4 _ _
  | number _ h =>
    rw [routerRead_next h]
    exact hs.load4 _
  | call _ _ h => exact hs.routerCall h
  | body k _ h =>
    obtain ⟨hob, -, hwb⟩ := hs.handlerBody k
    obtain ⟨b, pc, rfl, hv, -⟩ := excReturn_shape h
    exact ⟨hob, hv, hwb⟩
  | clear _ h =>
    obtain ⟨ht, hwt⟩ := sequencerS3_shape h
    exact ⟨by rw [ht]; exact ho, by rw [ht]; exact hm, hwt hw⟩
  | zero _ h =>
    cases next_inj h
    unfold State.zeroR0toR12
    split <;> exact hs
  | leave _ h =>
    rw [sequencerS6_next h]
    exact ⟨by simpa using ho, by simpa [State.mode?, Psr.mode?_clearT] using hm, load1_memWf hw _⟩

/-- Every instruction keeps the invariant. -/
theorem Effect.inv {s t : State} {i : Instr} (h : Effect s i t) (hs : s.Inv) : t.Inv := by
  have ⟨ho, hm, hw⟩ := hs
  cases h with
  | masked | spsr | reply | jump => exact hs
  | trap _ k a => exact hs.enterTrap k a
  | mode _ m => exact ⟨ho, by simp [State.mode?, Psr.mode?_withMode], hw⟩
  | ret _ _ _ _ hv => exact ⟨ho, hv, hw⟩
  | reg _ _ _ _ h => rw [setX_next h]; exact hs
  | cpsr _ _ _ _ _ hv => exact ⟨ho, hv, hw⟩
  | boundary a => exact hs.atBoundary a
  | debug => exact hs.store4 _ _
  | call _ _ h => exact hs.routerCall h
  | resume _ h =>
    obtain ⟨ht, hmode, -, -⟩ := routerResume_shape h
    have hmem : t.memWf = (s.load4 s.r13.svc).2.memWf := memWf_congr (by rw [ht]; simp) (by rw [ht])
    exact ⟨by rw [ht]; exact ho, hmode, hmem.trans (load4_memWf hw _)⟩
  | softReset _ h => exact (runPart_effect (p := .sequencer) h).inv hs

/-- Settles O54, over the ways a step can go: the consumed request, the boundary's sample and the fetch keep the
invariant, and so does each effect of an instruction or a firmware step. -/
theorem stepKeepsInvariant : Obligations.StepKeepsInvariant := by
  intro s t hs h
  obtain ⟨-, ⟨q, rest, i, bytes, -, -, hex⟩ | ⟨k, -, -, rfl⟩ | ⟨i, -, -, -, hex⟩ | ⟨i, -, -, -, hex⟩ |
    ⟨p, -, -, -, hpart⟩⟩ := step_next h
  · exact (exec_effect hex).inv hs
  · exact hs.atBoundary s.pc
  · exact (exec_effect hex).inv hs
  · exact (exec_effect hex).inv (State.Inv.load4 (s := s.sampled) hs _)
  · exact (runPart_effect hpart).inv hs

/-- Settles O55: the fixed reset state carries no mark, is in Supervisor mode and lists no byte. -/
theorem invariantAtReset : Obligations.InvariantAtReset := ⟨rfl, by decide, rfl⟩

/-! ### The condition flags (R32) -/

namespace Psr

theorem nzcv_withMode (w : Word) (m : Mode) : nzcv (withMode w m) = nzcv w :=
  nzcv_congr fun j hj => getLsbD_withMode w m j (by omega)

theorem nzcv_clearT (w : Word) : nzcv (clearT w) = nzcv w :=
  nzcv_congr fun _ hj => getLsbD_clearT w (by omega)

theorem getLsbD_and_low {c : Word} {n : Nat} (hc : ∀ i : Fin 32, n ≤ i.val → c.getLsbD i.val = false) (w : Word)
    {j : Nat} (h : n ≤ j) : (w &&& c).getLsbD j = false := by
  by_cases hj : j < 32
  · simp [hc ⟨j, hj⟩ h]
  · exact BitVec.getLsbD_of_ge _ _ (by omega)

theorem nzcv_writeControl (w v : Word) : nzcv (writeControl w v) = nzcv w := by
  refine nzcv_congr fun j hj => ?_
  rw [writeControl, BitVec.getLsbD_or, getLsbD_and_mask (n := 28) (by decide) w hj,
    getLsbD_and_low (n := 28) (by decide) v hj, Bool.or_false]

theorem nzcv_writeFlags (w v : Word) : nzcv (writeFlags w v) = nzcv v := by
  refine nzcv_congr fun j hj => ?_
  rw [writeFlags, BitVec.getLsbD_or, getLsbD_and_low (n := 28) (by decide) w hj,
    getLsbD_and_mask (n := 28) (by decide) v hj, Bool.false_or]

end Psr

theorem nzcv_entryStatus (k : TrapKind) (m : Mode) (w : Word) : Psr.nzcv (entryStatus k m w) = Psr.nzcv w :=
  Psr.nzcv_congr fun _ hj => getLsbD_entryStatus k m w (by omega)

/-- WRITE_CPSR writes the flags it is given where its mask says so, and no others (R129). -/
theorem nzcv_writtenStatus (m : Mode) (w v : Word) (flags control : Bool) :
    Psr.nzcv (writtenStatus m w v flags control) = Psr.nzcv (if flags then v else w) := by
  have hflags : Psr.nzcv (if flags then Psr.writeFlags w v else w) = Psr.nzcv (if flags then v else w) := by
    cases flags with
    | false => rfl
    | true => exact Psr.nzcv_writeFlags w v
  by_cases hc : control ∧ m ≠ .usr
  · simp only [writtenStatus, if_pos hc, Psr.nzcv_writeControl, hflags]
  · simp only [writtenStatus, if_neg hc, hflags]

/-- The flags after a step from s to t that does not write `CPSR` from outside: kept, or a saved word's. -/
def FlagsMoved (s t : State) : Prop := Psr.nzcv t.cpsr = Psr.nzcv s.cpsr ∨ ∃ b, t.cpsr = t.spsr.get b

theorem nzcv_atBoundary (s : State) (a : Word) : Psr.nzcv (s.atBoundary a).cpsr = Psr.nzcv s.cpsr := by
  obtain ⟨k, -, -, ht⟩ | ⟨-, ht⟩ := atBoundary_cases s a
  · rw [ht]; exact nzcv_entryStatus _ _ _
  · rw [ht]; rfl

theorem routerCall_cpsr {s t : State} {n : Byte} (h : s.routerCall n = .next t) : t.cpsr = s.cpsr := by
  obtain ⟨m, -, rfl⟩ := routerCall_next h
  simp

theorem PartEffect.flagsMoved {s t : State} {p : Part} (h : PartEffect s p t) : FlagsMoved s t := by
  cases h with
  | slot => exact .inl rfl
  | mode => exact .inl (Psr.nzcv_withMode _ _)
  | push _ h => obtain ⟨-, -, -, rfl⟩ := routerStart_next h; exact .inl (by simp)
  | number _ h => rw [routerRead_next h]; exact .inl (by simp)
  | call _ _ h => exact .inl (by rw [routerCall_cpsr h])
  | body _ _ h => obtain ⟨b, pc, rfl, -, -⟩ := excReturn_shape h; exact .inr ⟨b, rfl⟩
  | clear _ h => rw [sequencerS3_next h]; exact .inl (by simp)
  | zero _ h => cases next_inj h; unfold State.zeroR0toR12; split <;> exact .inl rfl
  | leave _ h => rw [sequencerS6_next h]; exact .inl (Psr.nzcv_clearT _)

/-- An instruction moves the flags, or is the WRITE_CPSR that was given them. -/
theorem Effect.flagsMoved {s t : State} {i : Instr} (h : Effect s i t) :
    FlagsMoved s t ∨ ∃ v control, i = .writeCpsr v true control ∧ Psr.nzcv t.cpsr = Psr.nzcv v := by
  cases h with
  | masked | spsr | reply | jump => exact .inl (.inl rfl)
  | trap => exact .inl (.inl (nzcv_entryStatus _ _ _))
  | mode => exact .inl (.inl (Psr.nzcv_withMode _ _))
  | ret _ b => exact .inl (.inr ⟨b, rfl⟩)
  | reg _ _ _ _ h => exact .inl (.inl (by rw [setX_next h]))
  | cpsr m v flags control =>
    cases flags with
    | false => exact .inl (.inl (nzcv_writtenStatus m s.cpsr v false control))
    | true => exact .inr ⟨v, control, rfl, nzcv_writtenStatus m s.cpsr v true control⟩
  | boundary a => exact .inl (.inl (nzcv_atBoundary s a))
  | debug => exact .inl (.inl (by simp))
  | call _ _ h => exact .inl (.inl (by rw [routerCall_cpsr h]))
  | resume _ h => exact .inl (.inr ⟨.svc, by rw [(routerResume_shape h).1]; rfl⟩)
  | softReset _ h => exact .inl (runPart_effect (p := .sequencer) h).flagsMoved

theorem decodeCall_ne_writeCpsr (n : Byte) (v : Word) (flags control : Bool) :
    decodeCall n ≠ .writeCpsr v flags control := by
  have htable : ∀ i ∈ callTable, i ≠ .writeCpsr v flags control := by simp [callTable]
  unfold decodeCall
  split
  · rename_i i hi
    exact htable i (List.mem_of_getElem? hi)
  · exact nofun

theorem decodeSwi_ne_writeCpsr (cond : BitVec 4) (imm24 : BitVec 24) (v : Word) (flags control : Bool) :
    decodeSwi cond imm24 ≠ .writeCpsr v flags control := by
  have htable : ∀ f ∈ swiTable, f cond (imm24.extractLsb' 8 16) ≠ .writeCpsr v flags control := by simp [swiTable]
  unfold decodeSwi
  split
  · rename_i f hf
    exact htable f (List.mem_of_getElem? hf)
  · exact nofun

/-- No ARM32 word is a WRITE_CPSR (R108(2)). -/
theorem decodeArm32_ne_writeCpsr (w v : Word) (flags control : Bool) :
    decodeArm32 w ≠ .ok (.writeCpsr v flags control) := by
  unfold decodeArm32
  split_ifs
  · exact nofun
  · exact nofun
  · exact nofun
  · exact nofun
  · exact fun h => decodeSwi_ne_writeCpsr _ _ v flags control (Except.ok.inj h)
  · exact nofun

/-- What stands at a firmware address: a firmware step, a call handler or the router's step 5 (R290). -/
theorem firmwareAt_cases {p : Params} {pc : Word} {x : Selected} (h : firmwareAt p pc = some x) :
    (∃ q, x = .part q) ∨ (∃ n, x = .instr (decodeCall n)) ∨ x = .instr .routerResume := by
  unfold firmwareAt at h
  split at h
  next k _ => exact .inl ⟨.slot k, (Option.some.inj h).symm⟩
  next =>
    split at h
    next k _ => exact .inl ⟨handlerPart k, (Option.some.inj h).symm⟩
    next =>
      split at h
      next n _ => exact .inr (.inl ⟨BitVec.ofNat 8 n, (Option.some.inj h).symm⟩)
      next =>
        split at h
        next => exact .inr (.inr (Option.some.inj h).symm)
        next => cases h

/-- What can run at `PC` (R290, R108(2)): what stands at a firmware address, a fetched word of the block, or the
executor's own instruction. -/
theorem selected_cases (s : State) :
    (∃ p, s.selected = .part p) ∨ (∃ n, s.selected = .instr (decodeCall n)) ∨ s.selected = .instr .routerResume ∨
      (∃ i, s.selected = .fetched i ∧ decodeArm32 (s.load4 s.pc).1 = .ok i) ∨ s.selected = .executor := by
  unfold State.selected
  split
  next => simp
  next =>
    split
    next m _ => exact .inl ⟨.micro m, rfl⟩
    next =>
      split
      next x hx => obtain ⟨q, rfl⟩ | ⟨n, rfl⟩ | rfl := firmwareAt_cases hx <;> simp
      next =>
        unfold State.fetched
        split
        next => simp
        next => split <;> simp_all

/-- A WRITE_CPSR runs only when the executor presents it (R129): neither the firmware nor the fetch holds one. -/
theorem ne_writeCpsr_of_selected {s : State} {i : Instr} (h : s.selected = .instr i ∨ s.selected = .fetched i)
    (v : Word) (flags control : Bool) : i ≠ .writeCpsr v flags control := by
  obtain ⟨p, hs⟩ | ⟨n, hs⟩ | hs | ⟨j, hs, hj⟩ | hs := selected_cases s <;> rw [hs] at h
  · simp at h
  · obtain rfl : decodeCall n = i := by simpa using h
    exact decodeCall_ne_writeCpsr n v flags control
  · obtain rfl : Instr.routerResume = i := by simpa using h
    exact nofun
  · obtain rfl : j = i := by simpa using h
    rintro rfl
    exact decodeArm32_ne_writeCpsr _ v flags control hj
  · simp at h

/-- An instruction that runs at `PC` moves the flags. -/
theorem flagsMoved_of_selected {s u t : State} {i : Instr} (hsel : s.selected = .instr i ∨ s.selected = .fetched i)
    (hu : u.cpsr = s.cpsr) (hex : exec i u = .next t) : FlagsMoved s t := by
  obtain h | ⟨v, control, hi, -⟩ := (exec_effect hex).flagsMoved
  · rwa [FlagsMoved, ← hu]
  · exact absurd hi (ne_writeCpsr_of_selected hsel v true control)

/-- Settles O59, over the ways a step can go: only a presented WRITE_CPSR brings flags from outside. -/
theorem flagsAreOnlyMoved : Obligations.FlagsAreOnlyMoved := by
  intro s t h
  refine or_assoc.mp ?_
  obtain ⟨-, ⟨q, rest, i, bytes, hq, hdec, hex⟩ | ⟨k, -, -, rfl⟩ | ⟨i, -, -, hsel, hex⟩ | ⟨i, -, -, hsel, hex⟩ |
    ⟨p, -, -, -, hpart⟩⟩ := step_next h
  · obtain h | ⟨v, control, rfl, hv⟩ := (exec_effect hex).flagsMoved
    · exact .inl h
    · exact .inr ⟨q, rest, v, control, bytes, hq, hdec, hv⟩
  · exact .inl (.inl (nzcv_atBoundary s s.pc))
  · exact .inl (flagsMoved_of_selected (s := s.sampled) (.inl hsel) rfl hex)
  · exact .inl (flagsMoved_of_selected (s := s.sampled) (.inr hsel) (by simp) hex)
  · exact .inl (runPart_effect hpart).flagsMoved

/-! ### The register view (R27) -/

/-- A cell that holds a register of the view. -/
inductive Cell where
  | gpr (i : Fin 13)
  | fiqHi (i : Fin 5)
  | r13 (b : Bank)
  | r14 (b : Bank)
  | pc

/-- What the cell holds. -/
def Cell.get (s : State) : Cell → Word
  | .gpr i => s.gpr[i]
  | .fiqHi i => s.fiqHi[i]
  | .r13 b => s.r13.get b
  | .r14 b => s.r14.get b
  | .pc => s.pc

/-- The cell written. -/
def Cell.set (s : State) (v : Word) : Cell → State
  | .gpr i => { s with gpr := s.gpr.set i v }
  | .fiqHi i => { s with fiqHi := s.fiqHi.set i v }
  | .r13 b => { s with r13 := s.r13.set b v }
  | .r14 b => { s with r14 := s.r14.set b v }
  | .pc => { s with pc := v }

/-- The register that shows the cell. -/
def Cell.index : Cell → Nat
  | .gpr i => i
  | .fiqHi i => i + 8
  | .r13 _ => 13
  | .r14 _ => 14
  | .pc => 15

/-- The cell that register i selects: none for r13 and r14 when `CPSR.M` names no mode. -/
def State.cell (s : State) (i : Fin 16) : Option Cell :=
  if h : i.val < 8 then some (.gpr ⟨i, by omega⟩)
  else if h : i.val < 13 then
    some (if s.fiqView then .fiqHi ⟨i - 8, by omega⟩ else .gpr ⟨i, by omega⟩)
  else if i.val = 13 then s.mode?.map fun m => .r13 m.bank
  else if i.val = 14 then s.mode?.map fun m => .r14 m.bank
  else some .pc

/-- A read looks into the cell that the register selects. -/
theorem x_eq_cell (s : State) (i : Fin 16) : s.x i = (s.cell i).map (Cell.get s) := by
  unfold State.x State.cell
  split_ifs
  · rfl
  · rfl
  · rfl
  · rw [Option.map_map]; rfl
  · rw [Option.map_map]; rfl
  · rfl

/-- A write stores into the cell that a read selects. -/
theorem setX_eq_cell (s : State) (i : Fin 16) (v : Word) : s.setX i v = (s.cell i).map (Cell.set s v) := by
  unfold State.setX State.cell
  split_ifs
  · rfl
  · rfl
  · rfl
  · rw [Option.map_map]; rfl
  · rw [Option.map_map]; rfl
  · rfl

theorem cell_r0_to_r7 (s : State) (i : Fin 8) :
    s.cell ⟨i.val, by omega⟩ = some (.gpr ⟨i.val, by omega⟩) := by
  simp [State.cell]

theorem cell_r8_to_r12 (s : State) (i : Fin 5) : s.cell ⟨i.val + 8, by omega⟩ =
    some (if s.mode? = some .fiq ∧ s.params.fiqBankR8R12 = true then .fiqHi i else .gpr ⟨i.val + 8, by omega⟩) := by
  have hview : s.fiqView = true ↔ s.mode? = some .fiq ∧ s.params.fiqBankR8R12 = true := by
    simp [State.fiqView, and_comm]
  have hhigh : ¬ i.val + 8 < 8 := by omega
  have hmid : i.val + 8 < 13 := by omega
  simp only [State.cell, dif_neg hhigh, dif_pos hmid, hview, Nat.add_sub_cancel]

theorem cell_13 (s : State) : s.cell 13 = s.mode?.map fun m => .r13 m.bank := rfl

theorem cell_14 (s : State) : s.cell 14 = s.mode?.map fun m => .r14 m.bank := rfl

theorem cell_15 (s : State) : s.cell 15 = some .pc := rfl

/-- Each cell shows as one register alone. -/
theorem index_of_cell {s : State} {i : Fin 16} {c : Cell} (h : s.cell i = some c) : c.index = i.val := by
  unfold State.cell at h
  split_ifs at h
  · cases h; rfl
  · cases h; simp only [Cell.index]; omega
  · cases h; rfl
  · obtain ⟨m, -, rfl⟩ := Option.map_eq_some_iff.mp h; simp only [Cell.index]; omega
  · obtain ⟨m, -, rfl⟩ := Option.map_eq_some_iff.mp h; simp only [Cell.index]; omega
  · cases h; simp only [Cell.index]; omega

theorem Cell.get_set_same (s : State) (v : Word) (c : Cell) : c.get (c.set s v) = v := by
  cases c <;> simp [Cell.get, Cell.set]

theorem Cell.get_set_other (s : State) (v : Word) {c d : Cell} (h : d ≠ c) : d.get (c.set s v) = d.get s := by
  cases c with
  | gpr i =>
    cases d with
    | gpr j => exact Vector.getElem_set_ne i.isLt j.isLt fun he => h (by rw [Fin.ext he])
    | _ => rfl
  | fiqHi i =>
    cases d with
    | fiqHi j => exact Vector.getElem_set_ne i.isLt j.isLt fun he => h (by rw [Fin.ext he])
    | _ => rfl
  | r13 b =>
    cases d with
    | r13 b' => exact PerBank.get_set_other _ (fun he => h (by rw [he])) v
    | _ => rfl
  | r14 b =>
    cases d with
    | r14 b' => exact PerBank.get_set_other _ (fun he => h (by rw [he])) v
    | _ => rfl
  | pc =>
    cases d with
    | pc => exact absurd rfl h
    | _ => rfl

/-- A write to a register's cell moves no register to another cell. -/
theorem cell_set (s : State) (v : Word) (c : Cell) (i : Fin 16) : (c.set s v).cell i = s.cell i := by
  cases c <;> rfl

theorem exec_readReg_of_cell {s : State} {r : Fin 16} {c : Cell} (h : s.cell r = some c) :
    exec (.readReg r) s = .next { s with reply := some (c.get s) } := by
  simp only [exec, execReadReg, x_eq_cell, h, Option.map_some]

theorem exec_readReg_of_no_cell {s : State} {r : Fin 16} (h : s.cell r = none) :
    exec (.readReg r) s = .fault (.invalidModeField { s with outcome := .faulted .invalidModeField }) := by
  simp only [exec, execReadReg, x_eq_cell, h, Option.map_none, State.faultWith]

theorem exec_writeReg_of_cell {s : State} {r : Fin 16} {c : Cell} (v : Word) (h : s.cell r = some c) :
    exec (.writeReg r v) s = .next (c.set s v) := by
  simp only [exec, execWriteReg, setX_eq_cell, h, Option.map_some]

theorem exec_writeReg_of_no_cell {s : State} {r : Fin 16} (v : Word) (h : s.cell r = none) :
    exec (.writeReg r v) s = .fault (.invalidModeField { s with outcome := .faulted .invalidModeField }) := by
  simp only [exec, execWriteReg, setX_eq_cell, h, Option.map_none, State.faultWith]

/-- Without a mode r13 and r14 select no cell. -/
theorem cell_eq_none {s : State} (h : s.mode? = none) {r : Fin 16} (hr : r = 13 ∨ r = 14) : s.cell r = none := by
  obtain rfl | rfl := hr
  · rw [cell_13, h]; rfl
  · rw [cell_14, h]; rfl

/-- Settles O18: the answer is what the cell that the register selects holds. -/
theorem readRegThroughView : Obligations.ReadRegThroughView := by
  intro s
  refine ⟨fun i => ?low, fun i => ?mid, fun m hm => ⟨?r13, ?r14⟩, ?pc, fun hm r hr => ?noMode⟩
  case low => exact exec_readReg_of_cell (cell_r0_to_r7 s i)
  case mid =>
    rw [exec_readReg_of_cell (cell_r8_to_r12 s i)]
    split <;> rfl
  case r13 => exact exec_readReg_of_cell (c := .r13 m.bank) (by rw [cell_13, hm]; rfl)
  case r14 => exact exec_readReg_of_cell (c := .r14 m.bank) (by rw [cell_14, hm]; rfl)
  case pc => exact exec_readReg_of_cell (cell_15 s)
  case noMode => exact exec_readReg_of_no_cell (cell_eq_none hm hr)

/-- Settles O19: the state is as before but for the cell that the register selects. -/
theorem writeRegThroughView : Obligations.WriteRegThroughView := by
  intro s v
  refine ⟨fun i => ?low, fun i => ?mid, fun m hm => ⟨?r13, ?r14⟩, ?pc, fun hm r hr => ?noMode⟩
  case low => exact exec_writeReg_of_cell v (cell_r0_to_r7 s i)
  case mid =>
    rw [exec_writeReg_of_cell v (cell_r8_to_r12 s i)]
    split <;> rfl
  case r13 => exact exec_writeReg_of_cell (c := .r13 m.bank) v (by rw [cell_13, hm]; rfl)
  case r14 => exact exec_writeReg_of_cell (c := .r14 m.bank) v (by rw [cell_14, hm]; rfl)
  case pc => exact exec_writeReg_of_cell v (cell_15 s)
  case noMode => exact exec_writeReg_of_no_cell v (cell_eq_none hm hr)

theorem exec_writeReg_next {s t : State} {r : Fin 16} {v : Word} (h : exec (.writeReg r v) s = .next t) :
    ∃ c, s.cell r = some c ∧ t = c.set s v := by
  cases hc : s.cell r with
  | none => rw [exec_writeReg_of_no_cell v hc] at h; cases h
  | some c => rw [exec_writeReg_of_cell v hc] at h; exact ⟨c, rfl, (next_inj h).symm⟩

theorem exec_readReg_next {s t : State} {r : Fin 16} (h : exec (.readReg r) s = .next t) :
    ∃ c, s.cell r = some c ∧ t = { s with reply := some (c.get s) } := by
  cases hc : s.cell r with
  | none => rw [exec_readReg_of_no_cell hc] at h; cases h
  | some c => rw [exec_readReg_of_cell hc] at h; exact ⟨c, rfl, (next_inj h).symm⟩

/-- Settles O20: the write leaves every register at its cell, and different registers select different cells. -/
theorem writtenRegisterReadsBack : Obligations.WrittenRegisterReadsBack := by
  intro s t i v h
  obtain ⟨c, hc, rfl⟩ := exec_writeReg_next h
  refine ⟨?_, fun j hji w hread => ?_⟩
  · rw [exec_readReg_of_cell ((cell_set s v c i).trans hc), Cell.get_set_same]
  · obtain ⟨d, hd, hw⟩ := exec_readReg_next hread
    obtain rfl : w = d.get s := Option.some.inj (congrArg State.reply hw)
    have hdc : d ≠ c := fun he => hji (Fin.ext (by rw [← index_of_cell hd, ← index_of_cell hc, he]))
    rw [exec_readReg_of_cell ((cell_set s v c j).trans hd), Cell.get_set_other s v hdc]

/-! ### The router's latches (R35) -/

/-- The latches and the link as the router's call leaves them (R156). -/
def LinkLatched (s t : State) : Prop :=
  t.rtrActive = true ∧
    ∃ m, s.mode? = some m ∧ t.rtrLrSave = s.r14.get m.bank ∧ t.r14 = s.r14.set m.bank s.params.routerRet

/-- Both latches are as they were. -/
def LatchesKept (s t : State) : Prop := t.rtrLrSave = s.rtrLrSave ∧ t.rtrActive = s.rtrActive

/-- The call in progress has ended, and the link's latch is as it was. -/
def CallEnded (s t : State) : Prop := t.rtrLrSave = s.rtrLrSave ∧ t.rtrActive = false

theorem linkLatched_of_routerCall {s t : State} {n : Byte} (h : s.routerCall n = .next t) : LinkLatched s t := by
  obtain ⟨m, hm, rfl⟩ := routerCall_next h
  exact ⟨rfl, m, hm, rfl, rfl⟩

theorem latchesKept_atBoundary (s : State) (a : Word) : LatchesKept s (s.atBoundary a) := by
  obtain ⟨k, -, -, ht⟩ | ⟨-, ht⟩ := atBoundary_cases s a
  · rw [ht]; exact ⟨rfl, rfl⟩
  · rw [ht]; exact ⟨rfl, rfl⟩

/-- A firmware step keeps the latches, is the router's call, or is S6. -/
theorem PartEffect.latches {s t : State} {p : Part} (h : PartEffect s p t) :
    LatchesKept s t ∨ (∃ n, p = .micro (.routerCall n) ∧ LinkLatched s t) ∨ (p = .micro .seqS6 ∧ CallEnded s t) := by
  cases h with
  | slot | mode => exact .inl ⟨rfl, rfl⟩
  | push _ h => obtain ⟨-, -, -, rfl⟩ := routerStart_next h; exact .inl ⟨by simp, by simp⟩
  | number _ h => rw [routerRead_next h]; exact .inl ⟨by simp, by simp⟩
  | call n _ h => exact .inr (.inl ⟨n, rfl, linkLatched_of_routerCall h⟩)
  | body _ _ h => obtain ⟨b, pc, rfl, -, -⟩ := excReturn_shape h; exact .inl ⟨rfl, rfl⟩
  | clear _ h => rw [sequencerS3_next h]; exact .inl ⟨by simp, by simp⟩
  | zero _ h => cases next_inj h; unfold State.zeroR0toR12; split <;> exact .inl ⟨rfl, rfl⟩
  | leave _ h => rw [sequencerS6_next h]; exact .inr (.inr ⟨rfl, by simp, rfl⟩)

/-- S1 keeps the latches: it is neither the router's call nor S6. -/
theorem latchesKept_sequencerS1 {s t : State} (h : s.sequencerS1 = .next t) : LatchesKept s t := by
  obtain h | ⟨n, hp, -⟩ | ⟨hp, -⟩ := (runPart_effect (p := .sequencer) h).latches
  · exact h
  · cases hp
  · cases hp

/-- An instruction keeps the latches, is the router's call as a row of the table, or is its step 5. -/
theorem Effect.latches {s t : State} {i : Instr} (h : Effect s i t) :
    LatchesKept s t ∨ (∃ n, i = .callOutOfRange n ∧ LinkLatched s t) ∨ (i = .routerResume ∧ CallEnded s t) := by
  cases h with
  | masked | spsr | reply | jump | trap | mode | ret | cpsr => exact .inl ⟨rfl, rfl⟩
  | reg _ _ _ _ h => rw [setX_next h]; exact .inl ⟨rfl, rfl⟩
  | boundary a => exact .inl (latchesKept_atBoundary s a)
  | debug => exact .inl ⟨by simp, by simp⟩
  | call n _ h => exact .inr (.inl ⟨n, rfl, linkLatched_of_routerCall h⟩)
  | resume _ h => rw [(routerResume_shape h).1]; exact .inr (.inr ⟨rfl, rfl, rfl⟩)
  | softReset _ h => exact .inl (latchesKept_sequencerS1 h)

/-- Only in the 32-bit encoding does anything of the block run at `PC` (R104, R290). -/
theorem t_of_selected {s : State} (h : s.selected ≠ .executor) : Psr.t s.cpsr = false := by
  unfold State.selected at h
  split at h
  · exact absurd rfl h
  · rename_i ht; simpa using ht

/-- A step that runs what stands at `PC` runs what is selected there. -/
theorem runsNext_of_selected {s : State} {x : Selected} (ho : s.outcome = .running) (hq : s.requests = [])
    (hi : s.interruptNow = none) (hsel : s.sampled.selected = x) (hx : x ≠ .executor) : s.RunsNext x := by
  rw [selected_sampled] at hsel
  exact ⟨⟨ho, hq, hi⟩, t_of_selected (hsel ▸ hx), hsel⟩

/-- What a step can do to the latches: keep them, be the router's call, or be its step 5 or S6. -/
def LatchStep (s t : State) : Prop :=
  LatchesKept s t ∨
    ((∃ n, s.RunsNext (.part (.micro (.routerCall n))) ∨ s.RunsInstr (.callOutOfRange n)) ∧ LinkLatched s t) ∨
    ((s.RunsInstr .routerResume ∨ s.RunsNext (.part (.micro .seqS6))) ∧ CallEnded s t)

/-- An instruction that the step runs, in the state u that the request, the sample or the fetch leaves. -/
theorem latchStep_of_exec {s u t : State} {i : Instr} (hrun : s.RunsInstr i)
    (hu : u = { s with requests := u.requests, lines := u.lines, mem := u.mem, freeCount := u.freeCount })
    (hex : exec i u = .next t) : LatchStep s t := by
  have heffect := (exec_effect hex).latches
  rw [hu] at heffect
  obtain hkept | ⟨n, rfl, hlatched⟩ | ⟨rfl, hended⟩ := heffect
  · exact .inl hkept
  · exact .inr (.inl ⟨⟨n, .inr hrun⟩, hlatched⟩)
  · exact .inr (.inr ⟨.inl hrun, hended⟩)

theorem latchStep_of_runPart {s t : State} {p : Part} (hrun : s.RunsNext (.part p))
    (hpart : runPart p s.sampled = .next t) : LatchStep s t := by
  obtain hkept | ⟨n, rfl, hlatched⟩ | ⟨rfl, hended⟩ := (runPart_effect hpart).latches
  · exact .inl hkept
  · exact .inr (.inl ⟨⟨n, .inl hrun⟩, hlatched⟩)
  · exact .inr (.inr ⟨.inr hrun, hended⟩)

theorem latchStep_of_step {s t : State} (h : step s = .next t) : LatchStep s t := by
  obtain ⟨ho, ⟨q, rest, i, bytes, hq, hdec, hex⟩ | ⟨k, -, -, rfl⟩ | ⟨i, hq, hi, hsel, hex⟩ | ⟨i, hq, hi, hsel, hex⟩ |
    ⟨p, hq, hi, hsel, hpart⟩⟩ := step_next h
  · exact latchStep_of_exec (.inl ⟨q, rest, bytes, ho, hq, hdec⟩) rfl hex
  · exact .inl (latchesKept_atBoundary s s.pc)
  · exact latchStep_of_exec (.inr (.inl (runsNext_of_selected ho hq hi hsel nofun))) rfl hex
  · have hrun := runsNext_of_selected ho hq hi hsel nofun
    exact latchStep_of_exec (.inr (.inr hrun)) (by rw [State.load4_same]; rfl) hex
  · exact latchStep_of_runPart (runsNext_of_selected ho hq hi hsel nofun) hpart

/-- Settles O60: of what a step can do to the latches, only the call sets them and only step 5 and S6 clear. -/
theorem latchesWrittenOnlyByRouter : Obligations.LatchesWrittenOnlyByRouter := by
  intro s t h
  obtain ⟨hlr, hactive⟩ | ⟨hrun, hset, hlink⟩ | ⟨hrun, hlr, hcleared⟩ := latchStep_of_step h
  · refine ⟨fun hchange => ?_, fun hs ht => ?_⟩
    · obtain hne | ⟨hs, ht⟩ := hchange
      · exact absurd hlr hne
      · simp [hs, ht] at hactive
    · simp [hs, ht] at hactive
  · exact ⟨fun _ => ⟨hrun, hset, hlink⟩, fun _ ht => by simp [hset] at ht⟩
  · refine ⟨fun hchange => ?_, fun _ _ => hrun⟩
    obtain hne | ⟨-, ht⟩ := hchange
    · exact absurd hlr hne
    · simp [hcleared] at ht

/-! ### Reset (R40, R41) -/

/-- Settles O13: the values stand in the fixed reset state. -/
theorem resetStateHasSpecValues : Obligations.ResetStateHasSpecValues := by
  refine ⟨?_, ?_, ?_, ?_, ?_, rfl, rfl⟩ <;> decide

/-! ### SoftReset (R42, R43, R247) -/

/-- Nothing outside the block has a part in the next step: no mark, nothing presented, the lines low, the 32-bit
encoding. -/
def State.Quiet (s : State) : Prop :=
  s.outcome = .running ∧ s.requests = [] ∧ s.lines = [] ∧ Psr.t s.cpsr = false

/-- Quiet, with the numbered step m next. -/
def State.Ready (s : State) (m : MicroStep) : Prop := s.Quiet ∧ s.nextStep? = some m

theorem runFor_succ {s t : State} (h : step s = .next t) (n : Nat) : runFor (n + 1) s = runFor n t := by
  have hcore : core.step s = .next t := h
  simp only [runFor, Host.Core.run, hcore]
  rfl

theorem sampled_of_lines_nil {s : State} (h : s.lines = []) : s.sampled = s := by
  cases s; cases h; rfl

/-- In a quiet state the step is what stands at `PC`, and no sample is used up. -/
theorem step_of_quiet {s : State} (h : s.Quiet) : step s = runAtPc s := by
  obtain ⟨ho, hq, hl, -⟩ := h
  have hi : s.interruptNow = none := by simp only [State.interruptNow, hl]
  rw [step_atPc ho hq hi, sampled_of_lines_nil hl]

theorem step_of_ready {s : State} {m : MicroStep} (h : s.Ready m) : step s = runMicro m s := by
  have ⟨hquiet, hm⟩ := h
  have ⟨_, _, _, ht⟩ := hquiet
  have hsel : s.selected = .part (.micro m) := by simp [State.selected, ht, hm]
  simp only [step_of_quiet hquiet, runAtPc, hsel, runPart]

theorem ready_followedBy {t : State} (h : t.Quiet) (s : State) (m : MicroStep) : (t.followedBy s m).Ready m :=
  ⟨h, State.followedBy_nextStep? t s m⟩

theorem Psr.t_withMode (w : Word) (m : Mode) : Psr.t (Psr.withMode w m) = Psr.t w :=
  Psr.getLsbD_withMode w m 5 (le_refl 5)

/-- What a step of the sequencer that enters mode m leaves (R241, R242, R244). -/
def State.seqMode (s : State) (m : Mode) (r13 : PerBank Word) (spsr : PerSpsr Word) (next : MicroStep) : State :=
  State.followedBy { s with cpsr := Psr.withMode s.cpsr m, r13 := r13, spsr := spsr } s next

theorem ready_seqMode {s : State} (h : s.Quiet) (m : Mode) (r13 : PerBank Word) (spsr : PerSpsr Word)
    (next : MicroStep) : (s.seqMode m r13 spsr next).Ready next := by
  obtain ⟨ho, hq, hl, ht⟩ := h
  have hquiet : State.Quiet { s with cpsr := Psr.withMode s.cpsr m, r13 := r13, spsr := spsr } :=
    ⟨ho, hq, hl, (Psr.t_withMode s.cpsr m).trans ht⟩
  exact ready_followedBy hquiet s next

theorem mode?_seqMode (s : State) (m : Mode) (r13 : PerBank Word) (spsr : PerSpsr Word) (next : MicroStep) :
    (s.seqMode m r13 spsr next).mode? = some m := Psr.mode?_withMode _ _

theorem sequencerS1_eq {s : State} {m : Mode} (hm : s.mode? = some m) (hne : m ≠ .usr) : s.sequencerS1 =
    .next (s.seqMode .irq (s.r13.set .irq s.params.spIrq) (s.spsr.set .irq 0) .seqS2) := by
  rw [State.sequencerS1, enterMode_of_mode hm hne]; rfl

theorem sequencerS2_eq {s : State} {m : Mode} (hm : s.mode? = some m) (hne : m ≠ .usr) : s.sequencerS2 =
    .next (s.seqMode .svc (s.r13.set .svc s.params.spSvc) (s.spsr.set .svc 0) .seqS3) := by
  rw [State.sequencerS2, enterMode_of_mode hm hne]; rfl

theorem sequencerS4_eq {s : State} {m : Mode} (hm : s.mode? = some m) (hne : m ≠ .usr) : s.sequencerS4 =
    .next (s.seqMode .sys (s.r13.set .usr s.params.spSys) s.spsr .seqS5) := by
  rw [State.sequencerS4, enterMode_of_mode hm hne]; rfl

/-- S5 in System mode zeroes r0 to r12 of the common registers (R245). -/
theorem sequencerS5_eq {s : State} (hm : s.mode? = some .sys) : s.sequencerS5 =
    .next (State.followedBy { s with gpr := Vector.replicate 13 0 } s .seqS6) := by
  have hview : s.fiqView = false := by simp [State.fiqView, hm]
  simp only [State.sequencerS5, State.zeroR0toR12, hview, Bool.false_eq_true, if_false]
  rfl

theorem sequencerS6_eq (s : State) : s.sequencerS6 = .next { (s.load1 s.params.entryFlagAddr).2 with
    cpsr := Psr.clearT s.cpsr, rtrActive := false, pending := [],
    pc := entryAddress s.params (s.load1 s.params.entryFlagAddr).1 } := rfl

/-- At a firmware entry of the sequencer the step is S1. -/
theorem step_sequencer {s : State} (h : s.Quiet)
    (hsel : s.selected = .part .sequencer ∨ s.selected = .instr .callSoftReset) : step s = s.sequencerS1 := by
  obtain hsel | hsel := hsel
  · simp only [step_of_quiet h, runAtPc, hsel, runPart]
  · simp only [step_of_quiet h, runAtPc, hsel, exec, execCallSoftReset]

/-! #### The contents of `MEM`

An access looks only at the parameters, the contents and the counter. -/

/-- t has the parameters, the contents of `MEM` and the counter of s. -/
def SameMem (s t : State) : Prop := t.params = s.params ∧ t.mem = s.mem ∧ t.freeCount = s.freeCount

theorem SameMem.store1 {s t : State} (h : SameMem s t) (a : Word) (v : Byte) :
    SameMem (s.store1 a v) (t.store1 a v) := by
  obtain ⟨hp, hm, hf⟩ := h
  refine ⟨by simpa using hp, ?_⟩
  unfold State.store1
  rw [hp]
  cases s.params.memory <;> simp [State.accessed, State.unlisted, hp, hm, hf]

theorem SameMem.clear (n : Nat) : ∀ {s t : State}, SameMem s t → ∀ a, SameMem (s.clear a n) (t.clear a n) := by
  induction n with
  | zero => exact fun h _ => h
  | succ n ih => exact fun h a => ih (h.store1 a 0) (a + 1)

/-- The read of t as that of s. -/
theorem SameMem.load1 {s t : State} (h : SameMem s t) (a : Word) : t.load1 a = ((s.load1 a).1,
    { t with mem := (s.load1 a).2.mem, freeCount := (s.load1 a).2.freeCount }) := by
  obtain ⟨hp, hm, hf⟩ := h
  unfold State.load1
  rw [hp]
  cases s.params.memory with
  | ordinary => exact Prod.ext (by simp only [State.byteAt, State.unlisted, hp, hm]) (by rw [← hm, ← hf, ← hp])
  | other => simp [State.accessed, State.unlisted, hp, hm, hf]

/-- What `MEM` answers to S6's read of the flag byte after S3's writes, and what the read leaves (R243, R246). -/
def State.flagRead (s : State) : Byte × State :=
  (s.clear s.params.wramClearBase 0x200).load1 s.params.entryFlagAddr

theorem SameMem.flagRead {s t : State} (h : SameMem s t) : t.flagRead.1 = s.flagRead.1 ∧
    t.flagRead.2.mem = s.flagRead.2.mem ∧ t.flagRead.2.freeCount = s.flagRead.2.freeCount := by
  have hclear := h.clear 0x200 s.params.wramClearBase
  simp only [State.flagRead, h.1, hclear.load1, and_self]

/-- S4 to S6, from Supervisor mode. -/
theorem runFor_from_seqS4 {s : State} (h : s.Ready .seqS4) (hm : s.mode? = some .svc) :
    runFor 3 s = .next { s with
      cpsr := Psr.clearT (Psr.withMode s.cpsr .sys), gpr := Vector.replicate 13 0,
      r13 := s.r13.set .usr s.params.spSys, pc := entryAddress s.params (s.load1 s.params.entryFlagAddr).1,
      mem := (s.load1 s.params.entryFlagAddr).2.mem, freeCount := (s.load1 s.params.entryFlagAddr).2.freeCount,
      rtrActive := false, pending := [] } := by
  let s4 := s.seqMode .sys (s.r13.set .usr s.params.spSys) s.spsr .seqS5
  let s5 := State.followedBy { s4 with gpr := Vector.replicate 13 0 } s4 .seqS6
  have ready4 : s4.Ready .seqS5 := ready_seqMode h.1 _ _ _ _
  have ready5 : s5.Ready .seqS6 := ready_followedBy ready4.1 s4 .seqS6
  have h4 : step s = .next s4 := (step_of_ready h).trans (sequencerS4_eq hm nofun)
  have h5 : step s4 = .next s5 := (step_of_ready ready4).trans (sequencerS5_eq (mode?_seqMode _ _ _ _ _))
  have hload := SameMem.load1 (s := s) (t := s5) ⟨rfl, rfl, rfl⟩ s.params.entryFlagAddr
  have h6 := (step_of_ready ready5).trans (sequencerS6_eq s5)
  rw [show s5.params = s.params from rfl, hload] at h6
  rw [runFor_succ h4, runFor_succ h5, runFor_succ h6]
  rfl

/-- S3 to S6, from Supervisor mode. -/
theorem runFor_from_seqS3 {s : State} (h : s.Ready .seqS3) (hm : s.mode? = some .svc) :
    runFor 4 s = .next { s with
      cpsr := Psr.clearT (Psr.withMode s.cpsr .sys), gpr := Vector.replicate 13 0,
      r13 := s.r13.set .usr s.params.spSys, pc := entryAddress s.params s.flagRead.1,
      mem := s.flagRead.2.mem, freeCount := s.flagRead.2.freeCount, rtrActive := false, pending := [] } := by
  have h3 : step s = .next ((s.clear s.params.wramClearBase 0x200).followedBy s .seqS4) := step_of_ready h
  have hquiet : (s.clear s.params.wramClearBase 0x200).Quiet := by simpa [State.Quiet] using h.1
  have hsame := State.clear_same 0x200 s s.params.wramClearBase
  unfold State.flagRead
  rw [runFor_succ h3]
  generalize s.clear s.params.wramClearBase 0x200 = c at hquiet hsame
  have hmode : (c.followedBy s .seqS4).mode? = some .svc := by rw [hsame]; exact hm
  rw [runFor_from_seqS4 (ready_followedBy hquiet s .seqS4) hmode,
    SameMem.load1 (s := c) (t := c.followedBy s .seqS4) ⟨rfl, rfl, rfl⟩]
  rw [hsame]
  rfl

/-- The state SoftReset ends in: what R42 lists is written, and the rest is as R43 says. -/
def State.softReset (s : State) : State :=
  { s with
    cpsr := Psr.clearT (Psr.withMode (Psr.withMode (Psr.withMode s.cpsr .irq) .svc) .sys)
    gpr := Vector.replicate 13 0
    r13 := ((s.r13.set .irq s.params.spIrq).set .svc s.params.spSvc).set .usr s.params.spSys
    spsr := (s.spsr.set .irq 0).set .svc 0
    pc := entryAddress s.params s.flagRead.1
    mem := s.flagRead.2.mem
    freeCount := s.flagRead.2.freeCount
    rtrActive := false
    pending := [] }

/-- From a firmware entry of the sequencer, in any mode but User and with the lines low, six steps end in that state. -/
theorem runFor_softReset {s : State} {m : Mode} (h : s.Quiet) (hm : s.mode? = some m) (hne : m ≠ .usr)
    (hsel : s.selected = .part .sequencer ∨ s.selected = .instr .callSoftReset) :
    runFor 6 s = .next s.softReset := by
  let s1 := s.seqMode .irq (s.r13.set .irq s.params.spIrq) (s.spsr.set .irq 0) .seqS2
  let s2 := s1.seqMode .svc (s1.r13.set .svc s1.params.spSvc) (s1.spsr.set .svc 0) .seqS3
  have ready1 : s1.Ready .seqS2 := ready_seqMode h _ _ _ _
  have ready2 : s2.Ready .seqS3 := ready_seqMode ready1.1 _ _ _ _
  have h1 : step s = .next s1 := (step_sequencer h hsel).trans (sequencerS1_eq hm hne)
  have h2 : step s1 = .next s2 := (step_of_ready ready1).trans (sequencerS2_eq (mode?_seqMode _ _ _ _ _) nofun)
  obtain ⟨hflag, hmem, hcount⟩ := SameMem.flagRead (s := s) (t := s2) ⟨rfl, rfl, rfl⟩
  rw [runFor_succ h1, runFor_succ h2, runFor_from_seqS3 ready2 (mode?_seqMode _ _ _ _ _), hflag, hmem, hcount]
  rfl

/-- Only the mode field differs: T is cleared, and was clear. -/
theorem getLsbD_cpsr_softReset {s : State} (ht : Psr.t s.cpsr = false) {j : Nat} (hj : 5 ≤ j) :
    s.softReset.cpsr.getLsbD j = s.cpsr.getLsbD j := by
  obtain rfl | hj6 := hj.eq_or_lt
  · have hclear : ∀ w, (Psr.clearT w).getLsbD 5 = false := fun w => by simp [Psr.clearT]
    exact (hclear _).trans ht.symm
  · exact (Psr.getLsbD_clearT _ hj6).trans (by simp only [Psr.getLsbD_withMode _ _ _ hj])

/-- S6 goes to one of the two entries, whatever `MEM` answers (R246). -/
theorem pc_softReset (s : State) : s.softReset.pc = s.params.romEntry ∨ s.softReset.pc = s.params.ramEntry := by
  simp only [State.softReset, entryAddress]
  split
  · exact .inl rfl
  · exact .inr rfl

/-- Ordinary memory after S3's writes. -/
def State.clearedMem (s : State) : List Host.Cell :=
  Memory.clear s.unlisted s.mem s.params.wramClearBase 0x200

theorem load1_ordinary_of_mem {s : State} (h : s.OrdinaryMem) (m : List Host.Cell) (a : Word) :
    State.load1 { s with mem := m } a = (Memory.read1 s.unlisted m a, { s with mem := m }) :=
  load1_ordinary (s := { s with mem := m }) h a

theorem flagRead_ordinary {s : State} (h : s.OrdinaryMem) : s.flagRead =
    (Memory.read1 s.unlisted s.clearedMem s.params.entryFlagAddr, { s with mem := s.clearedMem }) := by
  rw [State.flagRead, clear_ordinary 0x200 h, ← State.clearedMem, load1_ordinary_of_mem h]

theorem read1_clearedMem {s : State} (h : s.memWf = true) (c : Word) : Memory.read1 s.unlisted s.clearedMem c =
    if (c - s.params.wramClearBase).toNat < 0x200 then 0 else s.byteAt c := by
  rw [State.clearedMem, Memory.read1_clear 0x200 h (by decide), State.byteAt]

theorem byteAt_softReset_ordinary {s : State} (h : s.OrdinaryMem) (c : Word) :
    s.softReset.byteAt c = Memory.read1 s.unlisted s.clearedMem c := by
  have hmem : s.softReset.mem = s.clearedMem := by simp only [State.softReset, flagRead_ordinary h]
  show Memory.read1 s.unlisted s.softReset.mem c = _
  rw [hmem]

theorem freeCount_softReset_ordinary {s : State} (h : s.OrdinaryMem) : s.softReset.freeCount = s.freeCount := by
  simp only [State.softReset, flagRead_ordinary h]

/-- S6 reads the flag byte that stands there at the end (R246). -/
theorem pc_softReset_ordinary {s : State} (h : s.OrdinaryMem) :
    s.softReset.pc = entryAddress s.params (s.softReset.byteAt s.params.entryFlagAddr) := by
  rw [byteAt_softReset_ordinary h]
  simp only [State.softReset, flagRead_ordinary h]

/-- Settles O49: the six steps end in `State.softReset`, of which the statement names the fields and the bytes. -/
theorem softResetPostcondition : Obligations.SoftResetPostcondition := by
  intro s ⟨ho, hq, _⟩ hl ht hsel ⟨m, hm, hne⟩
  refine ⟨s.softReset, runFor_softReset ⟨ho, hq, hl, ht⟩ hm hne hsel, ?mode, fun j hj => getLsbD_cpsr_softReset ht hj,
    pc_softReset s, ?frame, fun hord hwf => ⟨freeCount_softReset_ordinary hord, fun c => ?bytes, ?pc⟩⟩
  case mode => exact (Psr.mode?_clearT _).trans (Psr.mode?_withMode _ _)
  case frame => simp only [State.softReset]
  case bytes => exact (byteAt_softReset_ordinary hord c).trans (read1_clearedMem hwf c)
  case pc => exact pc_softReset_ordinary hord

end Sys2Proof.Machine
end

section
/-! PROOFS. The memory family: what a step does to the contents of `MEM`, the executor's fetch, and the branch words in
the vector slots (20_memory.md). -/

namespace Sys2Proof.Machine

/-! ### The contents of `MEM` after an instruction and after a firmware step (R65) -/

theorem atBoundary_mem (s : State) (a : Word) : (s.atBoundary a).mem = s.mem := by
  obtain ⟨k, -, -, ht⟩ | ⟨-, ht⟩ := atBoundary_cases s a <;> simp [ht]

@[simp] theorem State.zeroR0toR12_mem (s : State) : s.zeroR0toR12.mem = s.mem := by
  unfold State.zeroR0toR12; split <;> rfl

theorem routerCall_mem {s t : State} {n : Byte} (h : s.routerCall n = .next t) :
    t.mem = (s.load4 (callSlot s.params n)).2.mem := by
  obtain ⟨m, -, rfl⟩ := routerCall_next h
  rfl

/-- What a firmware step leaves in `MEM`, whatever `MEM` is: the contents as they were, or after the access of R65 that
the step makes. -/
theorem PartEffect.mem_cases {s t : State} {p : Part} (h : PartEffect s p t) :
    t.mem = s.mem ∨
      (p = .router ∧ t.mem = (s.store4 (s.r13.svc - 4) s.spsr.svc).mem) ∨
      (p = .micro .routerRead ∧ t.mem = (s.load4 (s.r14.svc - 4)).2.mem) ∨
      (∃ n, p = .micro (.routerCall n) ∧ t.mem = (s.load4 (callSlot s.params n)).2.mem) ∨
      (p = .micro .seqS3 ∧ t.mem = (s.clear s.params.wramClearBase 0x200).mem) ∨
      (p = .micro .seqS6 ∧ t.mem = (s.load1 s.params.entryFlagAddr).2.mem) ∨
      ∃ k, p = .body k := by
  cases h with
  | slot | mode => exact .inl rfl
  | zero _ h => cases next_inj h; exact .inl s.zeroR0toR12_mem
  | push _ h => obtain ⟨-, -, -, rfl⟩ := routerStart_next h; simp
  | number _ h => simp [routerRead_next h]
  | call n _ h => simp [routerCall_mem h]
  | clear _ h => simp [sequencerS3_next h]
  | leave _ h => simp [sequencerS6_next h]
  | body k => simp

/-- S1 makes no access (R241). -/
theorem sequencerS1_mem {s t : State} (h : s.sequencerS1 = .next t) : t.mem = s.mem := by
  simpa using (runPart_effect (p := .sequencer) h).mem_cases

/-- What an instruction leaves in `MEM`, whatever `MEM` is: the contents as they were, or after the access of R65 that
the instruction makes. -/
theorem Effect.mem_cases {s t : State} {i : Instr} (h : Effect s i t) :
    t.mem = s.mem ∨
      (∃ n, i = .callOutOfRange n ∧ t.mem = (s.load4 (callSlot s.params n)).2.mem) ∨
      (i = .routerResume ∧ t.mem = (s.load4 s.r13.svc).2.mem) ∨
      (i = .callDebug ∧ t.mem = (s.store4 s.params.diagAddr s.gpr[0]).mem) := by
  cases h with
  | masked | trap | mode | spsr | ret | reply | cpsr | jump => exact .inl rfl
  | reg _ _ _ _ h => rw [setX_next h]; exact .inl rfl
  | boundary a => exact .inl (atBoundary_mem s a)
  | softReset _ h => exact .inl (sequencerS1_mem h)
  | call n _ h => exact .inr (.inl ⟨n, rfl, routerCall_mem h⟩)
  | resume _ h => exact .inr (.inr (.inl ⟨rfl, by rw [(routerResume_shape h).1]⟩))
  | debug => exact .inr (.inr (.inr ⟨rfl, rfl⟩))

/-! ### Ordinary memory and the accesses (R62) -/

theorem load1_mem_ordinary {s : State} (hord : s.OrdinaryMem) (a : Word) : (s.load1 a).2.mem = s.mem := by
  rw [load1_ordinary hord]

theorem load4_mem_ordinary {s : State} (hord : s.OrdinaryMem) (a : Word) : (s.load4 a).2.mem = s.mem := by
  rw [load4_ordinary hord]

theorem store4_mem_ordinary {s : State} (hord : s.OrdinaryMem) (a v : Word) :
    (s.store4 a v).mem = Memory.write4 s.unlisted s.mem a v := by
  rw [store4_ordinary hord]

theorem clear_mem_ordinary {s : State} (hord : s.OrdinaryMem) (a : Word) (n : Nat) :
    (s.clear a n).mem = Memory.clear s.unlisted s.mem a n := by
  rw [clear_ordinary n hord]

/-- The firmware steps that store in ordinary memory: the router's push, S3, and an open body (R65). -/
theorem PartEffect.stores {s t : State} {p : Part} (h : PartEffect s p t) (hord : s.OrdinaryMem) :
    t.mem = s.mem ∨
      (p = .router ∧ t.mem = Memory.write4 s.unlisted s.mem (s.r13.svc - 4) s.spsr.svc) ∨
      (p = .micro .seqS3 ∧ t.mem = Memory.clear s.unlisted s.mem s.params.wramClearBase 0x200) ∨
      ∃ k, p = .body k := by
  obtain hkept | ⟨hp, hpush⟩ | ⟨-, hread⟩ | ⟨n, -, hread⟩ | ⟨hp, hclear⟩ | ⟨-, hread⟩ | hbody := h.mem_cases
  · exact .inl hkept
  · exact .inr (.inl ⟨hp, hpush.trans (store4_mem_ordinary hord _ _)⟩)
  · exact .inl (hread.trans (load4_mem_ordinary hord _))
  · exact .inl (hread.trans (load4_mem_ordinary hord _))
  · exact .inr (.inr (.inl ⟨hp, by rw [hclear, clear_mem_ordinary hord]⟩))
  · exact .inl (hread.trans (load1_mem_ordinary hord _))
  · exact .inr (.inr (.inr hbody))

/-- The only instruction that stores in ordinary memory is the Debug call (R65, R229). -/
theorem Effect.stores {s t : State} {i : Instr} (h : Effect s i t) (hord : s.OrdinaryMem) :
    t.mem = s.mem ∨ (i = .callDebug ∧ t.mem = Memory.write4 s.unlisted s.mem s.params.diagAddr s.gpr[0]) := by
  obtain hkept | ⟨n, -, hread⟩ | ⟨-, hread⟩ | ⟨hi, hstore⟩ := h.mem_cases
  · exact .inl hkept
  · exact .inl (hread.trans (load4_mem_ordinary hord _))
  · exact .inl (hread.trans (load4_mem_ordinary hord _))
  · exact .inr ⟨hi, hstore.trans (store4_mem_ordinary hord _ _)⟩

theorem makesAccess_of_body {s : State} {k : TrapKind} (hrun : s.RunsNext (.part (.body k))) : s.MakesAccess := by
  have hbody : ∃ k, s.RunsNext (.part (.body k)) := ⟨k, hrun⟩
  simp only [State.MakesAccess, hbody, or_true]

theorem makesAccess_of_fetched {s : State} {i : Instr} (hrun : s.RunsNext (.fetched i)) : s.MakesAccess := by
  have hfetch : ∃ i, s.RunsNext (.fetched i) := ⟨i, hrun⟩
  simp only [State.MakesAccess, hfetch, true_or, or_true]

/-- A state whose next step is a firmware step that can change the contents of some `MEM` makes an access. -/
theorem PartEffect.makesAccess {s t u : State} {p : Part} (h : PartEffect s p t) (hne : t.mem ≠ s.mem)
    (hrun : u.RunsNext (.part p)) : u.MakesAccess := by
  obtain hkept | ⟨rfl, -⟩ | ⟨rfl, -⟩ | ⟨n, rfl, -⟩ | ⟨rfl, -⟩ | ⟨rfl, -⟩ | ⟨k, rfl⟩ := h.mem_cases
  · exact absurd hkept hne
  · exact .inl hrun
  · exact .inr (.inl hrun)
  · exact .inr (.inr (.inl ⟨n, .inl hrun⟩))
  · simp only [State.MakesAccess, hrun, true_or, or_true]
  · simp only [State.MakesAccess, hrun, true_or, or_true]
  · exact makesAccess_of_body hrun

/-- A state whose next step runs an instruction that can change the contents of some `MEM` makes an access. -/
theorem Effect.makesAccess {s t u : State} {i : Instr} (h : Effect s i t) (hne : t.mem ≠ s.mem)
    (hrun : u.RunsInstr i) : u.MakesAccess := by
  obtain hkept | ⟨n, rfl, -⟩ | ⟨rfl, -⟩ | ⟨rfl, -⟩ := h.mem_cases
  · exact absurd hkept hne
  · exact .inr (.inr (.inl ⟨n, .inr hrun⟩))
  · exact .inr (.inr (.inr (.inl hrun)))
  · exact .inr (.inr (.inr (.inr (.inl hrun))))

/-! ### The contents of `MEM` after a step (R65) -/

/-- What a step from s to t may do to the contents of `MEM`: in ordinary memory the stores of R65 and an open body's;
in any `MEM`, nothing without an access. -/
def MemoryListed (s t : State) : Prop :=
  (s.OrdinaryMem → t.mem = s.mem ∨
    (s.RunsNext (.part .router) ∧ t.mem = Memory.write4 s.unlisted s.mem (s.r13.svc - 4) s.spsr.svc) ∨
    (s.RunsInstr .callDebug ∧ t.mem = Memory.write4 s.unlisted s.mem s.params.diagAddr s.gpr[0]) ∨
    (s.RunsNext (.part (.micro .seqS3)) ∧
      t.mem = Memory.clear s.unlisted s.mem s.params.wramClearBase 0x200) ∨
    ∃ k, s.RunsNext (.part (.body k))) ∧
  (t.mem ≠ s.mem → s.MakesAccess)

theorem memoryListed_of_runPart {s t : State} {p : Part} (hrun : s.RunsNext (.part p))
    (hpart : runPart p s.sampled = .next t) : MemoryListed s t := by
  have heffect := runPart_effect hpart
  refine ⟨fun hord => ?_, fun hne => heffect.makesAccess hne hrun⟩
  obtain hkept | ⟨rfl, hpush⟩ | ⟨rfl, hclear⟩ | ⟨k, rfl⟩ := heffect.stores hord
  · exact .inl hkept
  · exact .inr (.inl ⟨hrun, hpush⟩)
  · exact .inr (.inr (.inr (.inl ⟨hrun, hclear⟩)))
  · exact .inr (.inr (.inr (.inr ⟨k, hrun⟩)))

/-- An instruction that the step runs, in the state u that the request or the sample leaves. -/
theorem memoryListed_of_exec {s u t : State} {i : Instr} (hrun : s.RunsInstr i)
    (hu : u = { s with requests := u.requests, lines := u.lines }) (hex : exec i u = .next t) : MemoryListed s t := by
  have heffect := exec_effect hex
  rw [hu] at heffect
  refine ⟨fun hord => ?_, fun hne => heffect.makesAccess hne hrun⟩
  obtain hkept | ⟨rfl, hstore⟩ := heffect.stores hord
  · exact .inl hkept
  · exact .inr (.inr (.inl ⟨hrun, hstore⟩))

/-- A fetched word runs in the state the fetch leaves: in ordinary memory the state before it; in any other `MEM` the
fetch is itself an access (log 20). -/
theorem memoryListed_of_fetched {s t : State} {i : Instr} (hrun : s.RunsNext (.fetched i))
    (hex : exec i (s.sampled.load4 s.sampled.pc).2 = .next t) : MemoryListed s t := by
  by_cases hord : s.OrdinaryMem
  · rw [load4_ordinary (s := s.sampled) hord] at hex
    exact memoryListed_of_exec (.inr (.inr hrun)) rfl hex
  · exact ⟨fun h => absurd h hord, fun _ => makesAccess_of_fetched hrun⟩

/-- Nothing runs between the sample and an interrupt's entry, which writes no memory (R267). -/
theorem memoryListed_atBoundary (s : State) : MemoryListed s (s.atBoundary s.pc) :=
  ⟨fun _ => .inl (atBoundary_mem s s.pc), fun hne => absurd (atBoundary_mem s s.pc) hne⟩

/-- Settles O58, over the ways a step can go: of what each leaves in `MEM` only the stores of R65's list and an open body
change ordinary memory, and only an access changes any other. -/
theorem memoryWrittenOnlyAsListed : Obligations.MemoryWrittenOnlyAsListed := by
  intro s t h
  obtain ⟨ho, ⟨q, rest, i, bytes, hq, hdec, hex⟩ | ⟨k, -, -, rfl⟩ | ⟨i, hq, hi, hsel, hex⟩ | ⟨i, hq, hi, hsel, hex⟩ |
    ⟨p, hq, hi, hsel, hpart⟩⟩ := step_next h
  · exact memoryListed_of_exec (.inl ⟨q, rest, bytes, ho, hq, hdec⟩) rfl hex
  · exact memoryListed_atBoundary s
  · exact memoryListed_of_exec (.inr (.inl (runsNext_of_selected ho hq hi hsel nofun))) rfl hex
  · exact memoryListed_of_fetched (runsNext_of_selected ho hq hi hsel nofun) hex
  · exact memoryListed_of_runPart (runsNext_of_selected ho hq hi hsel nofun) hpart

/-! ### The executor's fetch (R62, R108(2), R290; log 20) -/

/-- A word of the block that stands outside the firmware, with no numbered step next, is what `PC` selects. -/
theorem selected_of_fetched {s : State} {i : Instr} (ht : Psr.t s.cpsr = false) (hnext : s.nextStep? = none)
    (hat : firmwareAt s.params s.pc = none) (halign : s.pc.extractLsb' 0 2 = 0)
    (hdec : decodeArm32 (s.load4 s.pc).1 = .ok i) : s.selected = .fetched i := by
  simp [State.selected, State.fetched, ht, hnext, hat, halign, hdec]

/-- The boundary's sample and the fetch touch different fields. -/
theorem sampled_load4_snd (s : State) (a : Word) :
    (s.sampled.load4 a).2 = { (s.load4 a).2 with lines := s.lines.tail } := by
  obtain ⟨-, hmem, hcount⟩ := load4_congr (s := s) (t := s.sampled) rfl rfl rfl a
  rw [State.load4_same s.sampled a, State.load4_same s a, hmem, hcount]
  rfl

/-- Settles O7: `PC` selects the fetched word, and in ordinary memory the fetch is a read that leaves the state. -/
theorem stepRunsFetchedInstruction : Obligations.StepRunsFetchedInstruction := by
  intro s i ⟨ho, hq, hi⟩ ht hnext hat halign hdec
  refine ⟨?_, fun hord => load4_ordinary hord s.pc⟩
  have hsel := selected_of_fetched ht hnext hat halign hdec
  rw [step_atPc ho hq hi, runAtPc, selected_sampled, hsel, State.sampled_pc, sampled_load4_snd]

/-! ### The vector slots (R67, R317) -/

/-- Settles O12: the word in the slot decodes to the branch to `H_VEC[k]`, and both steps are that control transfer. -/
theorem slotBranchAgreesWithDispatch : Obligations.SlotBranchAgreesWithDispatch := by
  intro s k ⟨off24, hdec, htarget⟩ hpc
  refine ⟨.b off24, hpc ▸ hdec, ?_⟩
  have hbranch : branchTarget s.pc off24 = handlerEntry s.params k := hpc ▸ htarget
  simp only [exec, execB, runPart, hbranch]

end Sys2Proof.Machine
end

section
/-! PROOFS. The encoding family: the decoder and the encoder as each other's inverses, the slot branch, the SWI
instruction and the return words (30_encoding.md). -/

namespace Sys2Proof.Machine

/-! ### The decoder's steps, words, bytes and fields (R63, R92) -/

@[simp] theorem ok_bind {ε α β : Type} (a : α) (f : α → Except ε β) : (Except.ok a >>= f) = f a := rfl

@[simp] theorem map_ok {ε α β : Type} (a : α) (f : α → β) : (f <$> Except.ok a : Except ε β) = .ok (f a) := rfl

@[simp] theorem takeWord_bytesOfWord (w : Word) (rest : List Byte) :
    takeWord (bytesOfWord w ++ rest) = .ok (w, rest) := by
  simp only [bytesOfWord, List.cons_append, List.nil_append, takeWord, Memory.wordOfBytes_bytes]

/-- The fields that the decoder takes from a word of R92. -/
theorem swiWord_fields (cond : BitVec 4) (imm24 : BitVec 24) :
    (swiWord cond imm24).extractLsb' 24 8 = cond ++ 0xF#4 ∧ (swiWord cond imm24).extractLsb' 28 4 = cond ∧
      (swiWord cond imm24).extractLsb' 24 4 = 0xF ∧ (swiWord cond imm24).extractLsb' 0 24 = imm24 := by
  have hhi {start : ℕ} (h : 24 ≤ start) : (swiWord cond imm24).extractLsb' start 4 =
      (cond ++ 0xF#4).extractLsb' (start - 24) 4 := BitVec.extractLsb'_append_eq_of_le h
  exact ⟨BitVec.extractLsb'_append_eq_left, (hhi (by decide)).trans BitVec.extractLsb'_append_eq_left,
    (hhi (by decide)).trans BitVec.extractLsb'_append_eq_right, BitVec.extractLsb'_append_eq_right⟩

/-- A word with 1111 in bits 27:24 is the word of R92 of its fields. -/
theorem swiWord_of_fields {w : Word} (h : w.extractLsb' 24 4 = 0xF) :
    swiWord (w.extractLsb' 28 4) (w.extractLsb' 0 24) = w := by
  have hhi : w.extractLsb' 28 4 ++ w.extractLsb' 24 4 = w.extractLsb' 24 8 :=
    BitVec.extractLsb'_append_extractLsb'_eq_extractLsb' rfl
  rw [swiWord, show 0xF#4 = w.extractLsb' 24 4 from h.symm, hhi]
  exact BitVec.extractLsb'_append_extractLsb' (w := 8)

/-! ### The two tables (R94) -/

/-- Each row of the SWI table is encoded with its place as the call number. -/
theorem encode_swiTable (cond : BitVec 4) (immHi : BitVec 16) : (swiTable.map fun f => encode (f cond immHi)) =
    (List.range 44).map fun n => arm32Request (swiWord cond (immHi ++ BitVec.ofNat 8 n)) := rfl

theorem encode_swiRow {f : BitVec 4 → BitVec 16 → Instr} {n : Byte} (h : swiTable[n.toNat]? = some f)
    (cond : BitVec 4) (immHi : BitVec 16) : encode (f cond immHi) = arm32Request (swiWord cond (immHi ++ n)) := by
  obtain ⟨hn, rfl⟩ := List.getElem?_eq_some_iff.mp h
  have hrow := congrArg (·[n.toNat]?) (encode_swiTable cond immHi)
  simpa [hn, show n.toNat < 44 from hn] using hrow

/-- A call number stands in a table of 44 rows where R94 says so. -/
theorem getElem?_eq_none_iff_not_inRange {α : Type} {l : List α} (hl : l.length = 44) (n : Byte) :
    l[n.toNat]? = none ↔ callNumberInRange n = false := by
  simp [callNumberInRange, hl]

theorem decodeSwi_row {f : BitVec 4 → BitVec 16 → Instr} {n : Byte} (h : swiTable[n.toNat]? = some f)
    (cond : BitVec 4) (immHi : BitVec 16) : decodeSwi cond (immHi ++ n) = f cond immHi := by
  have hlo : (immHi ++ n).extractLsb' 0 8 = n := BitVec.extractLsb'_append_eq_right
  have hhi : (immHi ++ n).extractLsb' 8 16 = immHi := BitVec.extractLsb'_append_eq_left
  simp only [decodeSwi, hlo, hhi, h]

/-! ### The decoder reads what the encoder writes -/

/-- The decoder reads i from the request q, whatever bytes follow. -/
def ReadsBack (q : Request) (i : Instr) : Prop :=
  ∀ rest : List Byte, decode { format := q.format, bytes := q.bytes ++ rest } = .ok (i, rest)

theorem decode_arm32Request (w : Word) (rest : List Byte) :
    decode ⟨.arm32, bytesOfWord w ++ rest⟩ = (decodeArm32 w >>= fun i => pure (i, rest)) := by
  show (takeWord (bytesOfWord w ++ rest) >>= fun p => decodeArm32 p.1 >>= fun i => pure (i, p.2)) = _
  rw [takeWord_bytesOfWord, ok_bind]

theorem readsBack_arm32 {w : Word} {i : Instr} (h : decodeArm32 w = .ok i) : ReadsBack (arm32Request w) i := by
  intro rest
  show decode ⟨.arm32, bytesOfWord w ++ rest⟩ = _
  rw [decode_arm32Request, h]
  rfl

/-- Bits 27:24 tell the SWI from the three return words and the branch (R108(2)). -/
theorem decodeArm32_swiWord (cond : BitVec 4) (imm24 : BitVec 24) :
    decodeArm32 (swiWord cond imm24) = .ok (decodeSwi cond imm24) := by
  obtain ⟨htop, hcond, hf, himm⟩ := swiWord_fields cond imm24
  have hne {w : Word} (hw : w.extractLsb' 24 4 ≠ 0xF) : swiWord cond imm24 ≠ w := fun h => hw (h ▸ hf)
  have hb : (swiWord cond imm24).extractLsb' 24 8 ≠ 0xEA := fun h => by
    have hlo : (cond ++ 0xF#4).extractLsb' 0 4 = 0xF := BitVec.extractLsb'_append_eq_right
    rw [← htop, h] at hlo
    exact absurd hlo (by decide)
  rw [decodeArm32, if_neg (hne (by decide)), if_neg (hne (by decide)), if_neg (hne (by decide)), if_neg hb, if_pos hf,
    hcond, himm]

theorem decodeArm32_branch (off24 : BitVec 24) : decodeArm32 (0xEA#8 ++ off24) = .ok (.b off24) := by
  have hop : (0xEA#8 ++ off24).extractLsb' 24 8 = 0xEA := BitVec.extractLsb'_append_eq_left
  have hoff : (0xEA#8 ++ off24).extractLsb' 0 24 = off24 := BitVec.extractLsb'_append_eq_right
  have hne {w : Word} (hw : w.extractLsb' 24 8 ≠ 0xEA) : 0xEA#8 ++ off24 ≠ w := fun h => hw (h ▸ hop)
  rw [decodeArm32, if_neg (hne (by decide)), if_neg (hne (by decide)), if_neg (hne (by decide)), if_pos hop, hoff]

theorem readsBack_swiRow {f : BitVec 4 → BitVec 16 → Instr} {n : Byte} (h : swiTable[n.toNat]? = some f)
    {cond : BitVec 4} {immHi : BitVec 16} : ReadsBack (arm32Request (swiWord cond (immHi ++ n))) (f cond immHi) :=
  readsBack_arm32 (decodeSwi_row h cond immHi ▸ decodeArm32_swiWord _ _)

theorem decodeSwi_generic {cond : BitVec 4} {imm24 : BitVec 24} (h : (Instr.swi cond imm24).wellFormed = true) :
    decodeSwi cond imm24 = .swi cond imm24 := by
  have hn : swiTable[(imm24.extractLsb' 0 8).toNat]? = none :=
    (getElem?_eq_none_iff_not_inRange rfl _).mpr (by simpa [Instr.wellFormed] using h)
  rw [decodeSwi, hn]

theorem decodeCall_outOfRange {n : Byte} (h : (Instr.callOutOfRange n).wellFormed = true) :
    decodeCall n = .callOutOfRange n := by
  have hn : callTable[n.toNat]? = none :=
    (getElem?_eq_none_iff_not_inRange rfl _).mpr (by simpa [Instr.wellFormed] using h)
  rw [decodeCall, hn]

theorem readsBack_call (n : Byte) : ReadsBack ⟨.callNum, [n]⟩ (decodeCall n) := fun _ => rfl

theorem readsBack_trapRow (k : TrapKind) (a : Word) : ReadsBack (encode (trapRow k a)) (trapRow k a) := by
  intro rest
  cases k <;> simp [trapRow, encode, decode, decodeTrap]

/-! #### The operand words (log 8) -/

@[simp] theorem modeOfOperand_modeOperand (m : Mode) : modeOfOperand (modeOperand m) = .ok m := by cases m <;> rfl

@[simp] theorem adjustmentOfWord_word (adj : Adjustment) : adjustmentOfWord adj.word = .ok adj := by cases adj <;> rfl

@[simp] theorem maskOfOperand_maskOperand (flags control : Bool) :
    maskOfOperand (maskOperand flags control) = .ok (flags, control) := by cases flags <;> cases control <;> rfl

@[simp] theorem trapKindOfCode_ofNat (k : TrapKind) : trapKindOfCode (BitVec.ofNat 32 k.code).toNat = .ok k := by
  cases k <;> rfl

@[simp] theorem indexOfWord_ofNat (r : Fin 16) : indexOfWord (BitVec.ofNat 32 r.val) = .ok r := by
  revert r; decide

/-- An encoded well-formed instruction reads back, by its constructor; the last case is the 44 rows of the SWI table. -/
theorem readsBack_encode {i : Instr} (h : i.wellFormed = true) : ReadsBack (encode i) i := by
  cases i with
  | trapReqReset a => exact readsBack_trapRow .reset a
  | trapReqUnd a => exact readsBack_trapRow .und a
  | trapReqSwi a => exact readsBack_trapRow .swi a
  | trapReqPabt a => exact readsBack_trapRow .pabt a
  | trapReqDabt a => exact readsBack_trapRow .dabt a
  | trapReqRsvd a => exact readsBack_trapRow .rsvd a
  | trapReqIrq a => exact readsBack_trapRow .irq a
  | trapReqFiq a => exact readsBack_trapRow .fiq a
  | excReturnReset | excReturnUnd | excReturnSwi | excReturnPabt | excReturnDabt | excReturnRsvd | excReturnIrq
  | excReturnFiq => exact fun _ => rfl
  | movsPcLr | subsPcLr4 | subsPcLr8 => exact readsBack_arm32 rfl
  | b off24 => exact readsBack_arm32 (decodeArm32_branch off24)
  | swi cond imm24 => exact readsBack_arm32 (decodeSwi_generic h ▸ decodeArm32_swiWord cond imm24)
  | callOutOfRange n =>
    have hcall := readsBack_call n
    rwa [decodeCall_outOfRange h] at hcall
  | enterMode m | saveStatus m | restoreStatus m adj | readReg r | writeReg r v | readCpsr | writeCpsr v flags control
  | readSpsr | writeSpsr v | trapReq k iaddr | boundary next | routerResume =>
    intro rest
    simp [encode, decode, decodeUop, -BitVec.toNat_ofNat]
  | callSoftReset | callRegisterRamReset | callHalt | callStop | callIntrWait | callVBlankIntrWait | callDiv
  | callDivArm | callSqrt | callArcTan | callArcTan2 | callCpuSet | callCpuFastSet | callGetBiosChecksum
  | callBgAffineSet | callObjAffineSet | callBitUnPack | callLZ77UnCompWram | callLZ77UnCompVram | callHuffUnComp
  | callRLUnCompWram | callRLUnCompVram | callDiff8bitUnFilterWram | callDiff8bitUnFilterVram
  | callDiff16bitUnFilter | callSoundBias | callSoundDriverInit | callSoundDriverMode | callSoundDriverMain
  | callSoundDriverVSync | callSoundChannelClear | callMidiKey2Freq | callMusicPlayerOpen | callMusicPlayerStart
  | callMusicPlayerStop | callMusicPlayerContinue | callMusicPlayerFadeOut | callMultiBoot | callHardReset
  | callCustomHalt | callSoundDriverVSyncOff | callSoundDriverVSyncOn | callSoundGetJumpList | callDebug =>
    exact readsBack_call _
  | _ => exact readsBack_swiRow rfl

/-- Settles O1: every constructor's encoding reads back (`readsBack_encode`). -/
theorem decodeOfEncode : Obligations.DecodeOfEncode :=
  fun _ rest hwf => readsBack_encode hwf rest

/-! ### The encoder writes what the decoder reads (R108(2)) -/

theorem encode_decodeSwi (cond : BitVec 4) (imm24 : BitVec 24) :
    encode (decodeSwi cond imm24) = arm32Request (swiWord cond imm24) := by
  have himm : imm24.extractLsb' 8 16 ++ imm24.extractLsb' 0 8 = imm24 := BitVec.extractLsb'_append_extractLsb' (w := 16)
  unfold decodeSwi
  split
  next f hf => rw [encode_swiRow hf, himm]
  next => rfl

theorem encode_of_decodeArm32 {w : Word} {i : Instr} (h : decodeArm32 w = .ok i) : encode i = arm32Request w := by
  unfold decodeArm32 at h
  split_ifs at h with hmovs hsubs4 hsubs8 hbranch hswi
  · cases h; rw [hmovs]; rfl
  · cases h; rw [hsubs4]; rfl
  · cases h; rw [hsubs8]; rfl
  · cases h
    show arm32Request (0xEA#8 ++ w.extractLsb' 0 24) = _
    rw [show 0xEA#8 = w.extractLsb' 24 8 from hbranch.symm]
    exact congrArg arm32Request (BitVec.extractLsb'_append_extractLsb' (w := 8))
  · cases h
    rw [encode_decodeSwi, swiWord_of_fields hswi]

/-- Settles O2, by the branches of the ARM32 decoder. -/
theorem encodeOfDecodedArm32 : Obligations.EncodeOfDecodedArm32 :=
  fun _ _ h => encode_of_decodeArm32 h

/-! ### What the decoder answers is well formed (R108(3))

Only the two catch-all rows can be ill formed, and the decoder answers them only off the end of their tables. -/

/-- An instruction among the decoder's answers is well formed. -/
def AnswersWellFormed (r : Except DecodeError (Instr × List Byte)) : Prop :=
  ∀ i rest, r = .ok (i, rest) → i.wellFormed = true

theorem answersWellFormed_ok {i : Instr} (h : i.wellFormed = true) (rest : List Byte) :
    AnswersWellFormed (.ok (i, rest)) := by
  rintro _ _ ⟨⟩
  exact h

theorem answersWellFormed_error (e : DecodeError) : AnswersWellFormed (.error e) := nofun

theorem answersWellFormed_bind {α : Type} {x : Except DecodeError α} {f : α → Except DecodeError (Instr × List Byte)}
    (h : ∀ a, x = .ok a → AnswersWellFormed (f a)) : AnswersWellFormed (x >>= f) := by
  cases x with
  | error e => exact answersWellFormed_error e
  | ok a => exact h a rfl

theorem callTable_wellFormed : ∀ i ∈ callTable, i.wellFormed = true := by decide

theorem swiTable_wellFormed (cond : BitVec 4) (immHi : BitVec 16) : ∀ f ∈ swiTable, (f cond immHi).wellFormed = true := by
  simp [swiTable, Instr.wellFormed]

theorem decodeCall_wellFormed (n : Byte) : (decodeCall n).wellFormed = true := by
  unfold decodeCall
  split
  next i hi => exact callTable_wellFormed i (List.mem_of_getElem? hi)
  next hnone => simp [Instr.wellFormed, (getElem?_eq_none_iff_not_inRange rfl n).mp hnone]

theorem decodeSwi_wellFormed (cond : BitVec 4) (imm24 : BitVec 24) : (decodeSwi cond imm24).wellFormed = true := by
  unfold decodeSwi
  split
  next f hf => exact swiTable_wellFormed _ _ f (List.mem_of_getElem? hf)
  next hnone => simp [Instr.wellFormed, (getElem?_eq_none_iff_not_inRange rfl _).mp hnone]

theorem decodeArm32_wellFormed {w : Word} {i : Instr} (h : decodeArm32 w = .ok i) : i.wellFormed = true := by
  unfold decodeArm32 at h
  split_ifs at h
  · cases h; rfl
  · cases h; rfl
  · cases h; rfl
  · cases h; rfl
  · cases h; exact decodeSwi_wellFormed _ _

theorem decodeTrap_wellFormed (code : Byte) (rest : List Byte) : AnswersWellFormed (decodeTrap code rest) := by
  unfold decodeTrap
  dsimp only
  split
  · exact answersWellFormed_error _
  · refine answersWellFormed_bind fun _ _ => ?_
    split <;> exact answersWellFormed_ok rfl _

theorem decodeReturn_wellFormed (code : Byte) (rest : List Byte) : AnswersWellFormed (decodeReturn code rest) := by
  unfold decodeReturn
  split
  case h_9 => exact answersWellFormed_error _
  all_goals exact answersWellFormed_ok rfl _

theorem decodeUop_wellFormed (code : Byte) (rest : List Byte) : AnswersWellFormed (decodeUop code rest) := by
  unfold decodeUop
  split
  case h_1 | h_2 | h_4 =>
    exact answersWellFormed_bind fun _ _ => answersWellFormed_bind fun _ _ => answersWellFormed_ok rfl _
  case h_3 =>
    exact answersWellFormed_bind fun _ _ => answersWellFormed_bind fun _ _ =>
      answersWellFormed_bind fun _ _ => answersWellFormed_bind fun _ _ => answersWellFormed_ok rfl _
  case h_5 | h_7 | h_10 =>
    exact answersWellFormed_bind fun _ _ => answersWellFormed_bind fun _ _ => answersWellFormed_bind fun _ _ =>
      answersWellFormed_ok rfl _
  case h_6 | h_8 | h_12 => exact answersWellFormed_ok rfl _
  case h_9 | h_11 => exact answersWellFormed_bind fun _ _ => answersWellFormed_ok rfl _
  case h_13 | h_14 | h_15 | h_16 | h_17 => exact answersWellFormed_error _

theorem decode_wellFormed (q : Request) : AnswersWellFormed (decode q) := by
  unfold decode
  split
  · exact answersWellFormed_error _
  · exact decodeTrap_wellFormed _ _
  · exact decodeReturn_wellFormed _ _
  · exact answersWellFormed_ok (decodeCall_wellFormed _) _
  · exact decodeUop_wellFormed _ _
  · exact answersWellFormed_bind fun _ _ => answersWellFormed_bind fun _ h =>
      answersWellFormed_ok (decodeArm32_wellFormed h) _

/-- Settles O3, by the branches of the decoder: only the catch-all rows have a check to pass. -/
theorem decodedIsWellFormed : Obligations.DecodedIsWellFormed := decode_wellFormed

/-! ### The return words (R99, R123) -/

theorem restoreStatus_visible {s : State} {m : Mode} {b : SpsrBank} (hm : s.mode? = some m) (hb : m.spsrBank? = some b)
    (adj : Adjustment) : s.restoreStatus m adj = s.returnFrom b adj := by
  simp only [State.restoreStatus, hb, hm, if_true]

theorem restoreStatus_noSpsr {m : Mode} (h : m = .usr ∨ m = .sys) (s : State) (adj : Adjustment) :
    s.restoreStatus m adj = s.faultWith .noSpsr := by
  rcases h with rfl | rfl <;> rfl

theorem returnWord_of_mode {s : State} {m : Mode} (hm : s.mode? = some m) (adj : Adjustment) :
    s.returnWord adj = s.restoreStatus m adj := by
  simp only [State.returnWord, hm]

theorem returnFrom_of_mode {s : State} {b : SpsrBank} (h : (Psr.mode? (s.spsr.get b)).isSome = true) (adj : Adjustment) :
    s.returnFrom b adj = .next { s with cpsr := s.spsr.get b, pc := s.r14.get b.bank + adj.word } := if_pos h

theorem returnFrom_of_noMode {s : State} {b : SpsrBank} (h : Psr.mode? (s.spsr.get b) = none) (adj : Adjustment) :
    s.returnFrom b adj = State.faultWith { s with cpsr := s.spsr.get b, pc := s.r14.get b.bank + adj.word }
      .invalidModeField := if_neg (by simp [State.mode?, h])

/-- Each return word is RESTORE_STATUS of the visible bank, its immediate subtracted from the link (R99). -/
theorem exec_returnWord {p : Instr × Word} (h : p ∈ [(Instr.movsPcLr, (0 : Word)), (.subsPcLr4, 4), (.subsPcLr8, 8)]) :
    ∃ adj : Adjustment, (∀ s, exec p.1 s = s.returnWord adj) ∧ adj.word = -p.2 := by
  simp only [List.mem_cons, List.not_mem_nil, or_false] at h
  rcases h with rfl | rfl | rfl
  · exact ⟨.zero, fun _ => rfl, rfl⟩
  · exact ⟨.minus4, fun _ => rfl, rfl⟩
  · exact ⟨.minus8, fun _ => rfl, rfl⟩

/-- Settles O33: in a mode with a saved status word the return is that of its bank, else the fault of R123. -/
theorem returnWordUsesVisibleBank : Obligations.ReturnWordUsesVisibleBank := by
  intro s m hm p hp
  obtain ⟨adj, hexec, hadj⟩ := exec_returnWord hp
  simp only [hexec, returnWord_of_mode hm, BitVec.sub_eq_add_neg, ← hadj]
  refine ⟨fun b hb hsome => ⟨_, ?_, rfl⟩, fun b hb hnone => ⟨_, ?_, rfl⟩, fun hns => restoreStatus_noSpsr hns s adj⟩
  · rw [restoreStatus_visible hm hb, returnFrom_of_mode hsome]
  · rw [restoreStatus_visible hm hb, returnFrom_of_noMode hnone]; rfl

/-! ### Control transfers and trap entries (R28, R267) -/

theorem transferredTo_setPc (s : State) (v : Word) : TransferredTo s (s.setPc v) v :=
  ⟨rfl, fun h => by rw [h, State.setPc_pc_self], State.setPc_nextStep?⟩

theorem f_entryStatus (k : TrapKind) (m : Mode) (w : Word) :
    Psr.f (entryStatus k m w) = (decide (k = .reset ∨ k = .fiq) || Psr.f w) := by
  have hw : Psr.f (Psr.setI (Psr.clearT (Psr.withMode w m))) = Psr.f w := by
    have h := Psr.getLsbD_withMode w m 6 (by decide)
    simp only [Psr.f, Psr.setI, Psr.clearT, BitVec.getLsbD_or, BitVec.getLsbD_and, h]
    simp
  unfold entryStatus
  split_ifs with hk
  · simp [hk, Psr.f, Psr.setF]
  · simp [hk, hw]

theorem entryStatusWord_entryStatus (k : TrapKind) (w : Word) : EntryStatusWord k w (entryStatus k k.entryMode w) :=
  ⟨field_entryStatus k _ w, t_entryStatus k _ w, i_entryStatus k _ w, f_entryStatus k _ w,
    fun _ => getLsbD_entryStatus k _ w⟩

theorem trapTaken_enterTrap (k : TrapKind) (a : Word) (s : State) : TrapTaken k a s (s.enterTrap k a) := by
  refine ⟨entryStatusWord_entryStatus k s.cpsr, fun hk => ?_, rfl, fun c hc => ?_, fun c hc => ?_, rfl⟩
  · simp [hk]
  · exact PerBank.get_set_other _ hc _
  · exact PerSpsr.get_set_other _ hc _

/-! ### The SWI instruction (R150) -/

/-- Every row of the SWI table has the meaning of `raiseSwi`: the immediate is ignored (R93). -/
theorem exec_swiTable (cond : BitVec 4) (immHi : BitVec 16) (s : State) :
    (swiTable.map fun f => exec (f cond immHi) s) = List.replicate 44 (s.raiseSwi cond) := rfl

theorem exec_swiRow {f : BitVec 4 → BitVec 16 → Instr} (hf : f ∈ swiTable) (cond : BitVec 4) (immHi : BitVec 16)
    (s : State) : exec (f cond immHi) s = s.raiseSwi cond := by
  have hmem := List.mem_map_of_mem (f := fun f => exec (f cond immHi) s) hf
  rw [exec_swiTable] at hmem
  exact List.eq_of_mem_replicate hmem

theorem raiseSwi_raisesOrSkips (s : State) (cond : BitVec 4) : ∃ t, s.raiseSwi cond = .next t ∧
    (if conditionHolds cond s.cpsr = true then TrapTaken .swi s.pc s t
      else TransferredTo s t (s.pc + (if Psr.t s.cpsr then 2 else 4))) := by
  refine ⟨_, rfl, ?_⟩
  by_cases hc : conditionHolds cond s.cpsr = true
  · rw [if_pos hc, if_pos hc]
    exact trapTaken_enterTrap .swi s.pc s
  · rw [if_neg hc, if_neg hc]
    exact transferredTo_setPc s _

/-- Settles O38: every SWI is `raiseSwi`, which enters the trap or writes `PC`. -/
theorem conditionalSwiRaisesOrSkips : Obligations.ConditionalSwiRaisesOrSkips := by
  refine fun s cond => ⟨fun f hf immHi => ?_, fun imm24 => raiseSwi_raisesOrSkips s cond⟩
  rw [exec_swiRow hf]
  exact raiseSwi_raisesOrSkips s cond

/-! ### Codes written out from the spec (R99, R101, R102) -/

/-- Settles O4: each word runs through the branches of `decodeArm32`. -/
theorem wordsOfTheSpecDecode : Obligations.WordsOfTheSpecDecode := ⟨rfl, rfl, rfl, rfl, rfl, rfl, rfl, rfl, rfl, rfl⟩

/-- Settles O5: the four codes have an arm of their own, which looks at no byte after the code. -/
theorem reservedUopCodesRefused : Obligations.ReservedUopCodesRefused := by
  intro code rest hlo hhi
  have hcode : code = 12 ∨ code = 13 ∨ code = 14 ∨ code = 15 := by bv_omega
  rcases hcode with rfl | rfl | rfl | rfl
  · rfl
  · rfl
  · rfl
  · rfl

/-! ### The slot branch (R98) -/

theorem signExtend_shiftLeft_two (off24 : BitVec 24) :
    off24.signExtend 32 <<< 2 = BitVec.ofInt 32 (4 * off24.toInt) := by
  rw [BitVec.shiftLeft_eq_mul_twoPow, BitVec.mul_comm, BitVec.ofInt_mul]
  rfl

/-- Settles O36: the branch is one write of `PC`, and the shifted offset is four times its signed value. -/
theorem execB_branchTarget : Obligations.BranchTarget := by
  intro s off24
  rw [← signExtend_shiftLeft_two]
  exact ⟨_, rfl, transferredTo_setPc s _⟩

end Sys2Proof.Machine
end

section
/-! PROOFS. The status word manager family: mode change, the saved status words copied, restored and accessed, and the
masked write of the status word (40_status_word_manager.md). -/

namespace Sys2Proof.Machine

/-! ### ENTER_MODE (R121) -/

theorem enterMode_of_usr {s : State} (h : s.mode? = some .usr) (m : Mode) :
    s.enterMode m = s.refuseWith .enterModeFromUser := by
  simp only [State.enterMode, h]

/-- Settles O15: outside User mode the operation is one `Psr.withMode` of `CPSR`. -/
theorem enterModeChangesModeFieldOnly : Obligations.EnterModeChangesModeFieldOnly := by
  intro s m m' hm
  constructor
  · intro hne
    exact ⟨_, enterMode_of_mode hm hne, Psr.field_withMode s.cpsr m, Psr.getLsbD_withMode s.cpsr m, rfl⟩
  · rintro rfl
    exact enterMode_of_usr hm m

/-! ### The saved status words (R34, R122 to R125) -/

theorem spsrBank?_eq_none_iff {m : Mode} : m.spsrBank? = none ↔ m = .usr ∨ m = .sys := by
  cases m <;> simp [Mode.spsrBank?]

theorem execSaveStatus_of_bank {m : Mode} {b : SpsrBank} (hb : m.spsrBank? = some b) (s : State) :
    execSaveStatus m s = .next { s with spsr := s.spsr.set b s.cpsr } := by
  simp only [execSaveStatus, hb]

theorem execSaveStatus_noSpsr {m : Mode} (h : m = .usr ∨ m = .sys) (s : State) :
    execSaveStatus m s = s.faultWith .noSpsr := by
  simp only [execSaveStatus, spsrBank?_eq_none_iff.mpr h]

/-- Settles O16: the operation writes one cell of the saved status words, where the mode has one. -/
theorem saveStatusCopiesCpsr : Obligations.SaveStatusCopiesCpsr := by
  refine fun s m => ⟨fun b hb => ?_, fun hns => execSaveStatus_noSpsr hns s⟩
  exact ⟨_, execSaveStatus_of_bank hb s, s.spsr.get_set_same b _, fun c hc => s.spsr.get_set_other hc _, rfl⟩

theorem restoreStatus_mismatch {s : State} {m : Mode} {b : SpsrBank} (hb : m.spsrBank? = some b) (hm : s.mode? ≠ some m)
    (adj : Adjustment) : s.restoreStatus m adj = s.faultWith .returnModeMismatch := by
  simp only [State.restoreStatus, hb, if_neg hm]

/-- Settles O17: the operation is the two writes of `returnFrom` where its bank is the visible one, else a fault. -/
theorem restoreStatusIsOneStep : Obligations.RestoreStatusIsOneStep := by
  intro s m adj
  refine ⟨fun b hb hm => ⟨fun hsome => ⟨_, ?mode, rfl⟩, fun hnone => ⟨_, ?noMode, rfl⟩⟩,
    fun hns => restoreStatus_noSpsr hns s adj, fun husr hsys hm => ?mismatch⟩
  case mode => exact (restoreStatus_visible hm hb adj).trans (returnFrom_of_mode hsome adj)
  case noMode => exact (restoreStatus_visible hm hb adj).trans (returnFrom_of_noMode hnone adj)
  case mismatch =>
    have hbank : m.spsrBank? ≠ none := fun hb => (spsrBank?_eq_none_iff.mp hb).elim husr hsys
    obtain ⟨b, hb⟩ := Option.ne_none_iff_exists'.mp hbank
    exact restoreStatus_mismatch hb hm adj

/-! ### WRITE_CPSR (R129) -/

namespace Psr

/-- Two complementary masks take each bit from one of two words. -/
theorem getLsbD_merge {c d : Word} {p : Nat → Prop} [DecidablePred p]
    (h : ∀ j : Fin 32, c.getLsbD j = !decide (p j) ∧ d.getLsbD j = decide (p j)) (w v : Word) (j : Nat) :
    ((w &&& c) ||| (v &&& d)).getLsbD j = if p j then v.getLsbD j else w.getLsbD j := by
  by_cases hj : j < 32
  · obtain ⟨hc, hd⟩ := h ⟨j, hj⟩
    by_cases hp : p j <;> simp [hc, hd, hp]
  · simp [BitVec.getLsbD_of_ge _ j (not_lt.mp hj)]

theorem getLsbD_writeFlags (w v : Word) (j : Nat) :
    (writeFlags w v).getLsbD j = if 28 ≤ j then v.getLsbD j else w.getLsbD j :=
  getLsbD_merge (p := (28 ≤ ·)) (by decide) w v j

theorem getLsbD_writeControl (w v : Word) (j : Nat) :
    (writeControl w v).getLsbD j = if j < 8 then v.getLsbD j else w.getLsbD j :=
  getLsbD_merge (p := (· < 8)) (by decide) w v j

/-- The mode follows the bits below 5 (R31). -/
theorem mode?_congr {w w' : Word} (h : ∀ j, j < 5 → w'.getLsbD j = w.getLsbD j) : mode? w' = mode? w := by
  have hfield : field w' = field w := by
    apply BitVec.eq_of_getLsbD_eq
    intro j hj
    simp only [field, BitVec.getLsbD_extractLsb', Nat.zero_add, h j hj]
  rw [mode?, hfield, mode?]

end Psr

/-- Every bit of the status word that WRITE_CPSR leaves. -/
theorem getLsbD_writtenStatus (m : Mode) (w v : Word) (flags control : Bool) (j : Nat) :
    (writtenStatus m w v flags control).getLsbD j =
      if (flags = true ∧ 28 ≤ j) ∨ (control = true ∧ m ≠ .usr ∧ j < 8) then v.getLsbD j else w.getLsbD j := by
  have hflags : (if flags then Psr.writeFlags w v else w).getLsbD j =
      if flags = true ∧ 28 ≤ j then v.getLsbD j else w.getLsbD j := by
    cases flags with
    | false => simp
    | true => simp [Psr.getLsbD_writeFlags]
  by_cases hc : control ∧ m ≠ .usr
  · simp only [writtenStatus, if_pos hc, Psr.getLsbD_writeControl, hflags]
    simp only [← ite_or, or_comm (a := j < 8), hc.1, hc.2, ne_eq, not_false_eq_true, true_and]
  · have hcj : ¬(control = true ∧ m ≠ .usr ∧ j < 8) := fun h => hc ⟨h.1, h.2.1⟩
    simp only [writtenStatus, if_neg hc, hflags, hcj, or_false]

theorem mode?_writtenStatus (m : Mode) (w v : Word) (flags control : Bool) :
    Psr.mode? (writtenStatus m w v flags control) = Psr.mode? (if control = true ∧ m ≠ .usr then v else w) := by
  refine Psr.mode?_congr fun j hj => ?_
  have h28 : ¬ 28 ≤ j := by omega
  have h8 : j < 8 := by omega
  simp only [getLsbD_writtenStatus, h28, h8, and_false, and_true, false_or]
  split <;> rfl

theorem execWriteCpsr_of_mode {s : State} {m : Mode} {v : Word} {flags control : Bool} (hm : s.mode? = some m)
    (h : (Psr.mode? (if control = true ∧ m ≠ .usr then v else s.cpsr)).isSome = true) :
    execWriteCpsr v flags control s = .next { s with cpsr := writtenStatus m s.cpsr v flags control } := by
  simp only [execWriteCpsr, hm]
  exact if_pos (by rwa [State.mode?, mode?_writtenStatus])

theorem execWriteCpsr_of_noMode {s : State} {m : Mode} {v : Word} {flags control : Bool} (hm : s.mode? = some m)
    (h : Psr.mode? (if control = true ∧ m ≠ .usr then v else s.cpsr) = none) :
    execWriteCpsr v flags control s =
      State.faultWith { s with cpsr := writtenStatus m s.cpsr v flags control } .invalidModeField := by
  simp only [execWriteCpsr, hm]
  exact if_neg (by simp [State.mode?, mode?_writtenStatus, h])

/-- Settles O21: the mode afterwards is that of the written word or the one before, so the write does not fault. -/
theorem writeCpsrWritesMaskedFields : Obligations.WriteCpsrWritesMaskedFields := by
  intro s m v flags control hm hv
  have hmode : (Psr.mode? (if control = true ∧ m ≠ .usr then v else s.cpsr)).isSome = true := by
    split_ifs with hc
    · exact hv hc.1 hc.2
    · exact Option.isSome_of_eq_some hm
  exact ⟨_, execWriteCpsr_of_mode hm hmode, rfl, getLsbD_writtenStatus m s.cpsr v flags control⟩

/-- Settles O22: outside User mode the mode afterwards is that of the written word, which has none. -/
theorem writeCpsrInvalidModeFaults : Obligations.WriteCpsrInvalidModeFaults := by
  intro s m v flags hm hne hv
  have hmode : Psr.mode? (if true = true ∧ m ≠ .usr then v else s.cpsr) = none := by rwa [if_pos ⟨rfl, hne⟩]
  refine ⟨_, execWriteCpsr_of_noMode hm hmode, rfl, fun j => ?_⟩
  simp only [getLsbD_writtenStatus, hne, ne_eq, not_false_eq_true, true_and]

/-! ### READ_CPSR, READ_SPSR and WRITE_SPSR (R128, R130, R131) -/

theorem withSpsr_of_bank {s : State} {m : Mode} {b : SpsrBank} (hm : s.mode? = some m) (hb : m.spsrBank? = some b)
    (f : SpsrBank → Result) : withSpsr s f = f b := by
  simp only [withSpsr, hm, hb]

theorem withSpsr_noSpsr {s : State} {m : Mode} (hm : s.mode? = some m) (h : m = .usr ∨ m = .sys)
    (f : SpsrBank → Result) : withSpsr s f = s.faultWith .noSpsr := by
  simp only [withSpsr, hm, spsrBank?_eq_none_iff.mpr h]

/-- Settles O23: both accesses to the saved status word are `withSpsr` of the current mode. -/
theorem statusWordAccess : Obligations.StatusWordAccess := by
  refine ⟨fun s => rfl, fun s m v hm => ⟨fun b hb => ⟨?read, ?write⟩, fun hns => ⟨?readNone, ?writeNone⟩⟩⟩
  case read => exact withSpsr_of_bank hm hb _
  case write =>
    exact ⟨_, withSpsr_of_bank hm hb _, s.spsr.get_set_same b v, fun c hc => s.spsr.get_set_other hc v, rfl⟩
  case readNone => exact withSpsr_noSpsr hm hns _
  case writeNone => exact withSpsr_noSpsr hm hns _

end Sys2Proof.Machine
end

section
/-! PROOFS. The router family: the SWI instruction, the router's checks and steps 1 to 5, and a whole routed call
(41_swi_router.md, 42_bios_calls.md). -/

namespace Sys2Proof.Machine

/-! ### The SWI instruction under condition always (R150) -/

theorem conditionHolds_always (w : Word) : conditionHolds 0xE w = true := rfl

/-- Settles O37: "always" holds, so every SWI is the raising branch of O38. -/
theorem swiAlwaysRaisesTrap : Obligations.SwiAlwaysRaisesTrap := by
  intro s
  have h := conditionalSwiRaisesOrSkips s 0xE
  simp only [conditionHolds_always, if_true] at h
  exact h

/-! ### A firmware step after the boundary's sample -/

theorem step_of_runsNext_part {s : State} {p : Part} (h : s.RunsNext (.part p)) : step s = runPart p s.sampled := by
  obtain ⟨⟨ho, hq, hi⟩, -, hsel⟩ := h
  simp only [step_atPc ho hq hi, runAtPc, selected_sampled, hsel]

/-- The read of t as that of s. -/
theorem SameMem.load4 {s t : State} (h : SameMem s t) (a : Word) : t.load4 a = ((s.load4 a).1,
    { t with mem := (s.load4 a).2.mem, freeCount := (s.load4 a).2.freeCount }) := by
  obtain ⟨hp, hm, hf⟩ := h
  obtain ⟨hval, hmem, hcount⟩ := load4_congr hp hm hf a
  refine Prod.ext hval ?_
  rw [State.load4_same t a, hmem, hcount]

/-- A read after the boundary's sample. -/
theorem sampled_load4 (s : State) (a : Word) :
    s.sampled.load4 a = ((s.load4 a).1, { (s.load4 a).2 with lines := s.lines.tail }) :=
  Prod.ext (load4_congr (s := s) (t := s.sampled) rfl rfl rfl a).1 (sampled_load4_snd s a)

/-- A write after the boundary's sample. -/
theorem sampled_store4 (s : State) (a v : Word) :
    s.sampled.store4 a v = { s.store4 a v with lines := s.lines.tail } := by
  unfold State.store4
  rw [State.sampled_params]
  cases s.params.memory <;> rfl

/-! ### The checks and the push (R151, R152) -/

theorem routerStart_notInSvc {s : State} (hm : s.mode? ≠ some .svc) :
    s.routerStart = s.faultWith .routerNotInSvc := by
  rw [State.routerStart, if_pos hm]

theorem routerStart_reentry {s : State} (hm : s.mode? = some .svc) (ha : s.rtrActive = true) :
    s.routerStart = s.faultWith .routerReentry := by
  rw [State.routerStart, if_neg (not_not.mpr hm), if_pos ha]

theorem routerStart_compact {s : State} (hm : s.mode? = some .svc) (ha : s.rtrActive = false)
    (ht : Psr.t s.spsr.svc = true) : s.routerStart = s.refuseWith .swiFromCompactState := by
  rw [State.routerStart, if_neg (not_not.mpr hm), if_neg (by simp [ha]), if_pos ht]

theorem routerStart_push {s : State} (hm : s.mode? = some .svc) (ha : s.rtrActive = false)
    (ht : Psr.t s.spsr.svc = false) : s.routerStart = .next (State.followedBy
      { s.store4 (s.r13.svc - 4) s.spsr.svc with r13 := s.r13.set .svc (s.r13.svc - 4) } s .routerRead) := by
  rw [State.routerStart, if_neg (not_not.mpr hm), if_neg (by simp [ha]), if_neg (by simp [ht])]

/-- Ordinary memory after one write of a word (R62): the word, and every other byte. -/
theorem store4_ordinary_bytes {s t : State} (hord : s.OrdinaryMem) (hwf : s.memWf = true) {a v : Word}
    (ht : SameMem (s.store4 a v) t) : t.freeCount = s.freeCount ∧ t.wordAt a = v ∧
      ∀ c : Word, 4 ≤ (c - a).toNat → t.byteAt c = s.byteAt c := by
  rw [store4_ordinary hord] at ht
  obtain ⟨hp, hm, hf⟩ := ht
  simp only [State.wordAt, State.byteAt, State.unlisted, hp, hm]
  exact ⟨hf, Memory.read4_write4 hwf, fun c hc => Memory.read1_write4_apart hwf hc⟩

/-- Settles O39: the branches of `routerStart` in the state that the boundary's sample leaves. -/
theorem routerChecksAndPush : Obligations.RouterChecksAndPush := by
  intro s hrun
  have hstep : step s = s.sampled.routerStart := step_of_runsNext_part hrun
  refine ⟨fun hm => ?notInSvc, fun hm ha => ?reentry, fun hm ha ht => ?compact, fun hm ha ht => ?push⟩
  case notInSvc => exact hstep.trans (routerStart_notInSvc hm)
  case reentry => exact hstep.trans (routerStart_reentry hm ha)
  case compact => exact hstep.trans (routerStart_compact hm ha ht)
  case push =>
    have hpush := hstep.trans (routerStart_push hm ha ht)
    simp only [sampled_store4] at hpush
    exact ⟨_, hpush, rfl, State.followedBy_nextStep? _ _ _,
      fun hord hwf => store4_ordinary_bytes hord hwf ⟨rfl, rfl, rfl⟩⟩

/-! ### The call number (R153) -/

theorem wordOfBytes_low (b0 b1 b2 b3 : Byte) : (wordOfBytes b0 b1 b2 b3).extractLsb' 0 8 = b0 :=
  BitVec.extractLsb'_append_eq_right

/-- Settles O40: the step is one read, and the low byte of the word is the byte at its address (R63). -/
theorem routerReadsCallNumber : Obligations.RouterReadsCallNumber := by
  intro s hrun
  have hstep : step s = s.sampled.routerRead := step_of_runsNext_part hrun
  simp only [State.routerRead, State.sampled_r14, sampled_load4] at hstep
  refine ⟨⟨_, hstep, rfl, State.followedBy_nextStep? _ _ _⟩, fun hord => ?_⟩
  rw [load4_ordinary hord]
  exact ⟨rfl, wordOfBytes_low _ _ _ _⟩

/-! ### System mode (R154) -/

theorem routerMode_of_mode {s : State} {m : Mode} (hm : s.mode? = some m) (hne : m ≠ .usr) (n : Byte) :
    s.routerMode n = .next (State.followedBy { s with cpsr := Psr.withMode s.cpsr .sys } s (.routerCall n)) := by
  rw [State.routerMode, enterMode_of_mode hm hne]
  rfl

/-- Settles O41: the step is ENTER_MODE(sys), and System mode's r13 and r14 are the user bank's. -/
theorem routerEntersSystemMode : Obligations.RouterEntersSystemMode := by
  intro s n hrun ⟨m, hm, hne⟩
  have hstep : step s = s.sampled.routerMode n := step_of_runsNext_part hrun
  let t := State.followedBy { s.sampled with cpsr := Psr.withMode s.cpsr .sys } s.sampled (.routerCall n)
  have hmode : t.mode? = some .sys := Psr.mode?_withMode s.cpsr .sys
  have hnext : step s = .next t := hstep.trans (routerMode_of_mode (s := s.sampled) hm hne n)
  refine ⟨t, hnext, hmode, Psr.getLsbD_withMode s.cpsr .sys, ?_, ?_, rfl, State.followedBy_nextStep? _ _ _⟩
  · rw [x_13, hmode]; rfl
  · rw [x_14, hmode]; rfl

/-! ### The call through the table (R155, R156) -/

/-- What the router's call to number n leaves in mode m: `PC` is the word that `MEM` answers for the table slot. -/
def State.tableCalled (s : State) (m : Mode) (n : Byte) : State :=
  State.endedAt { (s.load4 (callSlot s.params n)).2 with
    rtrLrSave := s.r14.get m.bank, r14 := s.r14.set m.bank s.params.routerRet, rtrActive := true }
    s (s.load4 (callSlot s.params n)).1

theorem routerCall_of_mode {s : State} {m : Mode} (hm : s.mode? = some m) {n : Byte}
    (h : callNumberInRange n = true ∨ s.params.oorPolicy = .faithful) : s.routerCall n = .next (s.tableCalled m n) := by
  have hpolicy : (!callNumberInRange n && s.params.oorPolicy == .fatal) = false := by
    rcases h with h | h <;> simp [h]
  have hmode : (s.load4 (callSlot s.params n)).2.mode? = some m := by simpa [State.mode?] using hm
  simp only [State.routerCall, hpolicy, x_14, setX_14, hmode, Option.map_some, State.load4_snd_r14]
  rfl

theorem routerCall_fatal {s : State} {n : Byte} (h : callNumberInRange n = false) (hp : s.params.oorPolicy = .fatal) :
    s.routerCall n = (s.load4 (callSlot s.params n)).2.faultWith .swiOutOfRange := by
  simp [State.routerCall, h, hp]

theorem tableCalled_sampled (s : State) (m : Mode) (n : Byte) :
    s.sampled.tableCalled m n = { s.tableCalled m n with lines := s.lines.tail } := by
  simp only [State.tableCalled, State.sampled_params, sampled_load4]
  rfl

theorem callSlot_eq (p : Params) (n : Byte) : callSlot p n = p.callTableBase + 4 * BitVec.ofNat 32 n.toNat := by
  rw [callSlot, BitVec.ofNat_toNat]

/-- Settles O42: both the row and the router's step are `routerCall`, which goes by the number and the policy. -/
theorem routerCallsTableEntry : Obligations.RouterCallsTableEntry := by
  intro s m n hm
  rw [← callSlot_eq]
  refine ⟨fun hord => load4_ordinary hord _, fun hcalled => ?called, fun hn hp => ?fatal⟩
  case called =>
    have h : callNumberInRange n = true ∨ s.params.oorPolicy = .faithful :=
      hcalled.imp_left fun hn => decide_eq_true (Nat.lt_succ_of_le hn)
    have hnext : (s.tableCalled m n).nextStep? = none := State.endedAt_nextStep? _ _ _
    refine ⟨(s.tableCalled m n).pending, hnext, routerCall_of_mode hm h, fun hrun => ?_⟩
    have hstep := (step_of_runsNext_part hrun).trans (routerCall_of_mode (s := s.sampled) hm h)
    rwa [tableCalled_sampled] at hstep
  case fatal =>
    have h : callNumberInRange n = false := decide_eq_false (by omega)
    refine ⟨routerCall_fatal h hp, fun hrun => ?_⟩
    have hstep := (step_of_runsNext_part hrun).trans (routerCall_fatal (s := s.sampled) h hp)
    rwa [State.sampled_params, sampled_load4] at hstep

theorem callNumberInRange_ofNat (n : Fin 44) : callNumberInRange (BitVec.ofNat 8 n.val) = true := by
  revert n; decide

/-- Settles O43: the number is in the table, and the table in place holds its handler's entry. -/
theorem routerResolvesToHandler : Obligations.RouterResolvesToHandler := by
  intro s n himage hmode hrun
  obtain ⟨m, hm⟩ := Option.isSome_iff_exists.mp hmode
  have hstep := (step_of_runsNext_part hrun).trans
    (routerCall_of_mode (s := s.sampled) hm (.inl (callNumberInRange_ofNat n)))
  rw [tableCalled_sampled] at hstep
  have hn : (BitVec.ofNat 8 n.val).toNat = n.val := Nat.mod_eq_of_lt (by omega)
  exact ⟨by rw [callSlot_eq, hn], _, hstep, himage n⟩

/-! ### The return to the caller (R158) -/

theorem resume_idle {s : State} (h : s.rtrActive = false) : execRouterResume s = s.faultWith .resumeWithoutRouter := by
  simp [execRouterResume, h]

theorem resume_noMode {s : State} (ha : s.rtrActive = true) (hm : s.mode? = none) :
    execRouterResume s = s.faultWith .invalidModeField := by
  simp [execRouterResume, ha, setX_14, hm]

/-- Step 5 before its ENTER_MODE: the latch in the mode's r14, no call in progress. -/
def State.linkRestored (s : State) (m : Mode) : State :=
  { s with r14 := s.r14.set m.bank s.rtrLrSave, rtrActive := false }

theorem resume_of_mode {s : State} {m : Mode} (ha : s.rtrActive = true) (hm : s.mode? = some m) :
    execRouterResume s = andThen ((s.linkRestored m).enterMode .svc) State.routerPop := by
  simp only [execRouterResume, ha, setX_14, hm]
  rfl

/-- Step 5 before its return: in Supervisor mode, the frame popped by one read of `MEM`. -/
def State.framePopped (s : State) (m : Mode) : State :=
  { (s.load4 s.r13.svc).2 with
    cpsr := Psr.withMode s.cpsr .svc, r14 := s.r14.set m.bank s.rtrLrSave, rtrActive := false,
    spsr := s.spsr.set .svc (s.load4 s.r13.svc).1, r13 := s.r13.set .svc (s.r13.svc + 4) }

/-- The pop in Supervisor mode; its read looks at nothing that the lines before it wrote. -/
theorem routerPop_linkRestored (s : State) (m : Mode) :
    State.routerPop { s.linkRestored m with cpsr := Psr.withMode s.cpsr .svc } =
      (s.framePopped m).returnFrom .svc .zero := by
  have hload := SameMem.load4 (s := s) (t := { s.linkRestored m with cpsr := Psr.withMode s.cpsr .svc })
    ⟨rfl, rfl, rfl⟩ s.r13.svc
  have hmode : (s.framePopped m).mode? = some .svc := Psr.mode?_withMode s.cpsr .svc
  have hreturn : (s.framePopped m).excReturn .swi = (s.framePopped m).returnFrom .svc .zero :=
    restoreStatus_visible hmode rfl .zero
  rw [← hreturn]
  simp only [State.routerPop, State.framePopped, State.linkRestored] at hload ⊢
  rw [hload, State.load4_same s]

/-- Outside User mode step 5 gets as far as its return. -/
theorem resume_eq_returnFrom {s : State} {m : Mode} (ha : s.rtrActive = true) (hm : s.mode? = some m) (hne : m ≠ .usr) :
    execRouterResume s = (s.framePopped m).returnFrom .svc .zero := by
  rw [resume_of_mode ha hm, enterMode_of_mode (s := s.linkRestored m) hm hne, ← routerPop_linkRestored]
  rfl

/-- What step 5 begun in mode m leaves. -/
def State.frameReturned (s : State) (m : Mode) : State :=
  { s.framePopped m with cpsr := (s.load4 s.r13.svc).1, pc := (s.r14.set m.bank s.rtrLrSave).svc }

/-- The return of step 5 takes the popped word, and Supervisor's link as it is. -/
theorem framePopped_returns (s : State) (m : Mode) : { s.framePopped m with
    cpsr := (s.framePopped m).spsr.get .svc,
    pc := (s.framePopped m).r14.get SpsrBank.svc.bank + Adjustment.zero.word } = s.frameReturned m := by
  have hpc : (s.framePopped m).r14.get SpsrBank.svc.bank + Adjustment.zero.word = (s.r14.set m.bank s.rtrLrSave).svc :=
    add_zero _
  rw [hpc]
  rfl

theorem resume_returns {s : State} {m : Mode} (ha : s.rtrActive = true) (hm : s.mode? = some m) (hne : m ≠ .usr)
    (hv : (Psr.mode? (s.load4 s.r13.svc).1).isSome = true) : execRouterResume s = .next (s.frameReturned m) := by
  rw [resume_eq_returnFrom ha hm hne, returnFrom_of_mode (s := s.framePopped m) (b := .svc) hv, framePopped_returns]

theorem resume_faults {s : State} {m : Mode} (ha : s.rtrActive = true) (hm : s.mode? = some m) (hne : m ≠ .usr)
    (hv : Psr.mode? (s.load4 s.r13.svc).1 = none) :
    execRouterResume s = (s.frameReturned m).faultWith .invalidModeField := by
  rw [resume_eq_returnFrom ha hm hne, returnFrom_of_noMode (s := s.framePopped m) (b := .svc) hv, framePopped_returns]

/-- The mark has no part in the writes. -/
theorem frameReturned_marked (s : State) (m : Mode) (o : Mark) :
    FrameReturned m { s with outcome := o } { s.frameReturned m with outcome := o } := by
  have hload := SameMem.load4 (s := s) (t := { s with outcome := o }) ⟨rfl, rfl, rfl⟩ s.r13.svc
  rw [FrameReturned]
  simp only [hload, State.frameReturned, State.framePopped]
  rw [State.load4_same s]

/-- Settles O44, by the lines of step 5 in their order, the last of them the return by the popped word. -/
theorem routerResumeReturns : Obligations.RouterResumeReturns := by
  intro s
  refine ⟨resume_idle, fun hord => load4_ordinary hord _, resume_noMode, fun ha hm => ?user,
    fun m ha hm hne => ⟨fun hv => ⟨s.frameReturned m, resume_returns ha hm hne hv, rfl, ?link⟩,
      fun hv => ⟨_, resume_faults ha hm hne hv, frameReturned_marked s m _⟩⟩⟩
  case user => exact (resume_of_mode ha hm).trans (by rw [enterMode_of_usr (s := s.linkRestored .usr) hm]; rfl)
  case link => rintro rfl; rfl

/-! ### A whole routed call: what the steps look at

A step in a quiet state, the contents of `MEM` after the push, and what is pending on the way. -/

theorem State.Quiet.t_eq_false {s : State} (h : s.Quiet) : Psr.t s.cpsr = false := by
  obtain ⟨-, -, -, ht⟩ := h
  exact ht

theorem quiet_enterTrap {s : State} (h : s.Quiet) (k : TrapKind) (a : Word) : (s.enterTrap k a).Quiet := by
  obtain ⟨ho, hq, hl, -⟩ := h
  exact ⟨ho, hq, hl, t_entryStatus k k.entryMode s.cpsr⟩

theorem selected_of_firmwareAt {s : State} {x : Selected} (ht : Psr.t s.cpsr = false) (hnext : s.nextStep? = none)
    (hat : firmwareAt s.params s.pc = some x) : s.selected = x := by
  simp [State.selected, ht, hnext, hat]

/-- Where different things stand the addresses are different. -/
theorem ne_of_firmwareAt {p : Params} {a b : Word} {x y : Selected} (ha : firmwareAt p a = some x)
    (hb : firmwareAt p b = some y) (hne : x ≠ y) : a ≠ b := by
  rintro rfl
  exact hne (Option.some.inj (ha.symm.trans hb))

theorem step_of_firmwareAt_part {s : State} {p : Part} (h : s.Quiet) (hnext : s.nextStep? = none)
    (hat : firmwareAt s.params s.pc = some (.part p)) : step s = runPart p s := by
  rw [step_of_quiet h, runAtPc, selected_of_firmwareAt h.t_eq_false hnext hat]

theorem step_of_firmwareAt_instr {s : State} {i : Instr} (h : s.Quiet) (hnext : s.nextStep? = none)
    (hat : firmwareAt s.params s.pc = some (.instr i)) : step s = exec i s := by
  rw [step_of_quiet h, runAtPc, selected_of_firmwareAt h.t_eq_false hnext hat]

/-- The push in ordinary memory. -/
theorem routerStart_push_ordinary {s : State} (hord : s.OrdinaryMem) (hm : s.mode? = some .svc)
    (ha : s.rtrActive = false) (ht : Psr.t s.spsr.svc = false) : s.routerStart = .next (State.followedBy
      { s with r13 := s.r13.set .svc (s.r13.svc - 4),
               mem := Memory.write4 s.unlisted s.mem (s.r13.svc - 4) s.spsr.svc } s .routerRead) := by
  rw [routerStart_push hm ha ht, store4_ordinary hord]

/-- A word apart from the four written bytes. -/
theorem Memory.read4_write4_apart {u : Nat → Byte} {m : List Host.Cell} {a c v : Word} (h : wf u m = true)
    (hac : wordsApart a c) : read4 u (write4 u m a v) c = read4 u m c := by
  obtain ⟨hac, hca⟩ := hac
  have h1 : 4 ≤ (c + 1 - a).toNat := by bv_omega
  have h2 : 4 ≤ (c + 2 - a).toNat := by bv_omega
  have h3 : 4 ≤ (c + 3 - a).toNat := by bv_omega
  simp only [read4, read1_write4_apart h hca, read1_write4_apart h h1, read1_write4_apart h h2,
    read1_write4_apart h h3]

/-- The entry that a numbered step records is gone from its position once the step has run. -/
theorem mem_otherPending_of_followedBy {t s : State} {m : MicroStep} {e : Pending}
    (h : e ∈ (t.followedBy s m).otherPending) : e ∈ s.otherPending := by
  simp only [State.otherPending, State.followedBy_pending, State.followedBy_position, Pending.dropAt,
    List.mem_filter, List.mem_cons] at h ⊢
  obtain ⟨rfl | ⟨h, -⟩, hne⟩ := h
  · simp at hne
  · exact h

theorem mem_pending_of_setPc {s : State} {v : Word} {e : Pending} (h : e ∈ (s.setPc v).pending) : e ∈ s.pending := by
  rw [State.setPc_pending] at h
  split at h
  · exact h
  · exact Pending.mem_of_mem_dropAt h

/-- The SWI rows and the generic one have the meaning of `raiseSwi`. -/
theorem exec_decodeSwi (cond : BitVec 4) (imm24 : BitVec 24) (s : State) :
    exec (decodeSwi cond imm24) s = s.raiseSwi cond := by
  unfold decodeSwi
  split
  next f hf => exact exec_swiRow (List.mem_of_getElem? hf) cond _ s
  next => rfl

/-- The low byte of an SWI word is its call number (R93). -/
theorem swiWord_callNumber (cond : BitVec 4) (immHi : BitVec 16) (n : Byte) :
    (swiWord cond (immHi ++ n)).extractLsb' 0 8 = n := by
  rw [swiWord, BitVec.extractLsb'_append_eq_of_add_le (by decide)]
  exact BitVec.extractLsb'_append_eq_right

/-! ### A whole routed call: from the SWI to the handler (R150 to R156) -/

/-- The premises on an SWI with call number n in guest code: ordinary memory (R62), nothing from outside, the image
(R78), and the frame apart from the instruction and its table slot. -/
structure RoutedSwi (s : State) (n : Fin 44) : Prop where
  ordinary : s.OrdinaryMem
  memWf : s.memWf = true
  quiet : s.Quiet
  noStep : s.nextStep? = none
  idle : s.rtrActive = false
  dispatches : Params.Dispatches s.params
  image : ImageInPlace s
  guest : firmwareAt s.params s.pc = none
  aligned : s.pc.extractLsb' 0 2 = 0
  word : ∃ immHi : BitVec 16, s.wordAt s.pc = swiWord 0xE (immHi ++ BitVec.ofNat 8 n.val)
  frameApartPc : wordsApart (s.r13.svc - 4) s.pc
  frameApartSlot : wordsApart (s.r13.svc - 4) (callSlot s.params (BitVec.ofNat 8 n.val))

/-- The contents of ordinary memory with the caller's status word in the frame. -/
def State.pushedMem (s : State) : List Host.Cell := Memory.write4 s.unlisted s.mem (s.r13.svc - 4) s.cpsr

/-- After the SWI at s, the slot branch and the router's step 1, with l pending. -/
def State.framePushed (s : State) (l : List Pending) : State :=
  { s with
    r14 := s.r14.set .svc (s.pc + 4), spsr := s.spsr.set .svc s.cpsr, cpsr := entryStatus .swi .svc s.cpsr
    pc := handlerEntry s.params .swi, r13 := s.r13.set .svc (s.r13.svc - 4), mem := s.pushedMem, pending := l }

/-- While the handler of the SWI at s runs: at pc, with the contents m of memory, and l pending. -/
def State.inCall (s : State) (pc : Word) (m : List Host.Cell) (l : List Pending) : State :=
  { s with
    r14 := (s.r14.set .svc (s.pc + 4)).set .usr s.params.routerRet, spsr := s.spsr.set .svc s.cpsr
    cpsr := Psr.withMode (entryStatus .swi .svc s.cpsr) .sys, pc := pc, r13 := s.r13.set .svc (s.r13.svc - 4)
    rtrActive := true, rtrLrSave := s.r14.usr, mem := m, pending := l }

/-- After the call of the SWI at s: what R162 lists, and memory. -/
def State.callReturned (s : State) (m : List Host.Cell) (l : List Pending) : State :=
  { s with
    r14 := s.r14.set .svc (s.pc + 4), spsr := s.spsr.set .svc s.cpsr, pc := s.pc + 4, rtrLrSave := s.r14.usr
    mem := m, pending := l }

/-- The trap entry has decided what `State.Quiet` looks at; the slot branch and the push leave it. -/
theorem quiet_framePushed {s : State} (h : s.Quiet) (l : List Pending) : (s.framePushed l).Quiet :=
  quiet_enterTrap h .swi s.pc

theorem quiet_inCall {s : State} (h : s.Quiet) (pc : Word) (m : List Host.Cell) (l : List Pending) :
    (s.inCall pc m l).Quiet := by
  obtain ⟨ho, hq, hl, -⟩ := h
  exact ⟨ho, hq, hl, (Psr.t_withMode _ .sys).trans (t_entryStatus .swi .svc s.cpsr)⟩

theorem mode?_inCall (s : State) (pc : Word) (m : List Host.Cell) (l : List Pending) :
    (s.inCall pc m l).mode? = some .sys := Psr.mode?_withMode _ .sys

section RoutedSwi

variable {s : State} {n : Fin 44}

/-- The SWI at `PC` is fetched and enters its trap (R150). -/
theorem RoutedSwi.step_swi (h : RoutedSwi s n) : step s = .next (s.enterTrap .swi s.pc) := by
  obtain ⟨immHi, hword⟩ := h.word
  have hload : s.load4 s.pc = (s.wordAt s.pc, s) := load4_ordinary h.ordinary s.pc
  have hdec : decodeArm32 (s.load4 s.pc).1 = .ok (decodeSwi 0xE (immHi ++ BitVec.ofNat 8 n.val)) := by
    rw [hload, hword, decodeArm32_swiWord]
  have hsel := selected_of_fetched h.quiet.t_eq_false h.noStep h.guest h.aligned hdec
  rw [step_of_quiet h.quiet, runAtPc, hsel]
  simp only [hload, exec_decodeSwi, State.raiseSwi, conditionHolds_always, if_true]

/-- The SWI, the slot branch and the push. -/
theorem RoutedSwi.runFor_framePushed (h : RoutedSwi s n) : ∃ l,
    (s.framePushed l).nextStep? = some .routerRead ∧
    (∀ e ∈ (s.framePushed l).otherPending, e ∈ s.pending) ∧ ∀ k, runFor (k + 3) s = runFor k (s.framePushed l) := by
  obtain ⟨hslot, hentry, -, -⟩ := h.dispatches
  let s1 := s.enterTrap .swi s.pc
  let s2 := s1.setPc (handlerEntry s.params .swi)
  let s3 := State.followedBy { s2 with r13 := s2.r13.set .svc (s2.r13.svc - 4), mem := s.pushedMem } s2 .routerRead
  have hquiet : s1.Quiet := quiet_enterTrap h.quiet .swi s.pc
  have hnext2 : s2.nextStep? = none :=
    State.setPc_nextStep? (ne_of_firmwareAt (hentry .swi) (hslot .swi) (by simp [handlerPart]))
  have hstep2 : step s1 = .next s2 :=
    step_of_firmwareAt_part hquiet (State.enterTrap_nextStep? s .swi s.pc) (hslot .swi)
  have hmode2 : s2.mode? = some .svc := mode?_entryStatus .swi .svc s.cpsr
  have hstep3 : step s2 = .next s3 := (step_of_firmwareAt_part (s := s2) hquiet hnext2 (hentry .swi)).trans
    (routerStart_push_ordinary h.ordinary hmode2 h.idle h.quiet.t_eq_false)
  have hs3 : s3 = s.framePushed s3.pending := by
    have hlink : linkValue .swi s.pc (Psr.t s.cpsr) = s.pc + 4 := by rw [h.quiet.t_eq_false]; rfl
    simp only [State.framePushed, ← hlink]
    rfl
  refine ⟨s3.pending, ?_, fun e he => ?_, fun k => ?_⟩
  · rw [← hs3]; exact State.followedBy_nextStep? _ _ _
  · rw [← hs3] at he
    have he2 := Pending.mem_of_mem_dropAt (mem_otherPending_of_followedBy he)
    exact Pending.mem_of_mem_dropAt (mem_pending_of_setPc he2)
  · rw [← hs3, runFor_succ h.step_swi, runFor_succ hstep2, runFor_succ hstep3]

/-- The push leaves the instruction and its table slot. -/
theorem RoutedSwi.wordAt_framePushed (h : RoutedSwi s n) (l : List Pending) {a : Word}
    (ha : wordsApart (s.r13.svc - 4) a) : (s.framePushed l).wordAt a = s.wordAt a :=
  Memory.read4_write4_apart h.memWf ha

theorem RoutedSwi.callNumber (h : RoutedSwi s n) (l : List Pending) :
    ((s.framePushed l).wordAt (s.pc + 4 - 4)).extractLsb' 0 8 = BitVec.ofNat 8 n.val := by
  obtain ⟨immHi, hword⟩ := h.word
  rw [BitVec.add_sub_cancel, h.wordAt_framePushed l h.frameApartPc, hword, swiWord_callNumber]

theorem RoutedSwi.tableWord (h : RoutedSwi s n) (l : List Pending) :
    (s.framePushed l).wordAt (callSlot s.params (BitVec.ofNat 8 n.val)) = s.params.hCall[n] := by
  have himage := h.image n
  rw [load4_ordinary h.ordinary] at himage
  exact (h.wordAt_framePushed l h.frameApartSlot).trans himage

/-- The router's steps 2 to 4. -/
theorem RoutedSwi.runFor_from_framePushed (h : RoutedSwi s n) {l : List Pending}
    (hnext : (s.framePushed l).nextStep? = some .routerRead) :
    ∃ l', (s.inCall s.params.hCall[n] s.pushedMem l').nextStep? = none ∧
      (∀ e ∈ l', e ∈ (s.framePushed l).otherPending) ∧
      ∀ k, runFor (k + 3) (s.framePushed l) = runFor k (s.inCall s.params.hCall[n] s.pushedMem l') := by
  let u := s.framePushed l
  let u2 := u.followedBy u (.routerMode (BitVec.ofNat 8 n.val))
  let u3 := State.followedBy { u2 with cpsr := Psr.withMode u2.cpsr .sys } u2 (.routerCall (BitVec.ofNat 8 n.val))
  let u4 := u3.tableCalled .sys (BitVec.ofNat 8 n.val)
  have hready : u.Ready .routerRead := ⟨quiet_framePushed h.quiet l, hnext⟩
  have hready2 : u2.Ready (.routerMode _) := ready_followedBy hready.1 u _
  have hready3 : u3.Ready (.routerCall _) := ready_followedBy (quiet_inCall h.quiet u2.pc u2.mem u2.pending) u2 _
  have hmode2 : u2.mode? = some .svc := mode?_entryStatus .swi .svc s.cpsr
  have hmode3 : u3.mode? = some .sys := Psr.mode?_withMode u2.cpsr .sys
  have hstep2 : step u = .next u2 := by
    rw [step_of_ready hready, runMicro, State.routerRead, load4_ordinary (s := u) h.ordinary]
    exact congrArg (fun b => Host.Outcome.next (u.followedBy u (.routerMode b))) (h.callNumber l)
  have hstep3 : step u2 = .next u3 := (step_of_ready hready2).trans (routerMode_of_mode hmode2 nofun _)
  have hstep4 : step u3 = .next u4 :=
    (step_of_ready hready3).trans (routerCall_of_mode hmode3 (.inl (callNumberInRange_ofNat n)))
  have hu4 : u4 = s.inCall s.params.hCall[n] s.pushedMem u4.pending := by
    have hload : u3.load4 (callSlot u3.params (BitVec.ofNat 8 n.val)) = (s.params.hCall[n], u3) := by
      rw [load4_ordinary (s := u3) h.ordinary]
      exact congrArg (·, u3) (h.tableWord l)
    simp only [u4, State.tableCalled, hload]
    rfl
  refine ⟨u4.pending, ?_, fun e he => ?_, fun k => ?_⟩
  · rw [← hu4]; exact State.endedAt_nextStep? _ _ _
  · exact mem_otherPending_of_followedBy (mem_otherPending_of_followedBy (Pending.mem_of_mem_dropAt he))
  · rw [← hu4, runFor_succ hstep2, runFor_succ hstep3, runFor_succ hstep4]

/-- From the SWI to the handler: six steps. -/
theorem RoutedSwi.runFor_inCall (h : RoutedSwi s n) : ∃ l,
    (s.inCall s.params.hCall[n] s.pushedMem l).nextStep? = none ∧
    (∀ e ∈ l, e ∈ s.pending) ∧ ∀ k, runFor (k + 6) s = runFor k (s.inCall s.params.hCall[n] s.pushedMem l) := by
  obtain ⟨l, hnext, hl, hrun⟩ := h.runFor_framePushed
  obtain ⟨l', hnext', hl', hrun'⟩ := h.runFor_from_framePushed hnext
  exact ⟨l', hnext', fun e he => hl e (hl' e he), fun k => (hrun (k + 3)).trans (hrun' k)⟩

/-- Step 5 after the handler, with the caller's status word still in the frame (R158). -/
theorem RoutedSwi.step_return (h : RoutedSwi s n) (hmode : s.mode?.isSome = true) {m : List Host.Cell}
    {l : List Pending} (hnext : (s.inCall s.params.routerRet m l).nextStep? = none)
    (hframe : Memory.read4 s.unlisted m (s.r13.svc - 4) = s.cpsr) :
    step (s.inCall s.params.routerRet m l) = .next (s.callReturned m l) := by
  obtain ⟨-, -, -, hresume⟩ := h.dispatches
  let v := s.inCall s.params.routerRet m l
  have hload : v.load4 v.r13.svc = (s.cpsr, v) := by
    rw [load4_ordinary (s := v) h.ordinary]
    exact congrArg (·, v) hframe
  have hexec : exec .routerResume v = .next (v.frameReturned .sys) :=
    resume_returns rfl (mode?_inCall s _ m l) nofun (by rw [hload]; exact hmode)
  rw [step_of_firmwareAt_instr (quiet_inCall h.quiet _ m l) hnext hresume, hexec]
  have hr13 : v.r13.set .svc (v.r13.svc + 4) = s.r13 :=
    congrArg (fun a => s.r13.set .svc a) (BitVec.sub_add_cancel s.r13.svc 4)
  simp only [State.frameReturned, State.framePopped, hload, hr13, ← h.idle]
  rfl

/-- The handler i of the call leaves the contents m and returns to `ROUTER_RET`: the whole call, eight steps (R162). -/
theorem RoutedSwi.runFor_callReturned (h : RoutedSwi s n) (hmode : s.mode?.isSome = true) {i : Instr}
    (hat : firmwareAt s.params s.params.hCall[n] = some (.instr i)) (hi : i ≠ .routerResume) {m : List Host.Cell}
    (hexec : ∀ l, exec i (s.inCall s.params.hCall[n] s.pushedMem l) =
      .next (State.setPc (s.inCall s.params.hCall[n] m l) s.params.routerRet))
    (hframe : Memory.read4 s.unlisted m (s.r13.svc - 4) = s.cpsr) :
    ∃ l, (∀ e ∈ l, e ∈ s.pending) ∧ runFor 8 s = .next (s.callReturned m l) := by
  obtain ⟨l, hnext, hl, hrun⟩ := h.runFor_inCall
  let v := s.inCall s.params.hCall[n] m l
  obtain ⟨-, -, -, hresume⟩ := h.dispatches
  have hpc : s.params.routerRet ≠ v.pc := ne_of_firmwareAt hresume hat fun he => hi (Selected.instr.inj he).symm
  have hhandler := (step_of_firmwareAt_instr (quiet_inCall h.quiet _ _ l) hnext hat).trans (hexec l)
  have hreturn : step (v.setPc s.params.routerRet) = .next (s.callReturned m (v.setPc s.params.routerRet).pending) :=
    h.step_return hmode (State.setPc_nextStep? hpc) hframe
  refine ⟨(v.setPc s.params.routerRet).pending, fun e he => hl e (mem_pending_of_setPc he), ?_⟩
  rw [hrun 2, runFor_succ hhandler, runFor_succ hreturn]
  rfl

end RoutedSwi

/-! ### A whole routed call: the handlers (R183, R229) -/

theorem Selected.behaviour_placeholder {i : Instr} (h : i ∈ placeholderCalls) :
    (Selected.instr i).behaviour = .instr .callHalt := by
  have hne : i ≠ .callSoftReset := fun he => absurd (he ▸ h) (by decide)
  rw [Selected.behaviour_instr, if_neg hne, if_pos (List.contains_iff_mem.mpr h)]

/-- What behaves as an instruction is that instruction, but for the placeholders, which are taken as one. -/
theorem Selected.eq_instr_of_behaviour {x : Selected} {j : Instr} (h : x.behaviour = .instr j) :
    ∃ i, x = .instr i ∧ (i = j ∨ (j = .callHalt ∧ i ∈ placeholderCalls)) := by
  cases x with
  | instr i =>
    rw [Selected.behaviour_instr] at h
    split at h
    next => cases h
    next =>
      split at h
      next hi => cases h; exact ⟨i, rfl, .inr ⟨rfl, List.contains_iff_mem.mp hi⟩⟩
      next => exact ⟨i, rfl, .inl (Selected.instr.inj h)⟩
  | part _ | fetched _ | executor => cases h

theorem decodeCall_mem_placeholderCalls {n : Fin 44} (hlo : 0 < n.val) (hhi : n.val < 0x2B) :
    decodeCall (BitVec.ofNat 8 n.val) ∈ placeholderCalls := by
  revert n; decide

/-- At the entry of a placeholder the dispatch finds a placeholder (R290). -/
theorem firmwareAt_placeholder {p : Params} (hd : Params.Dispatches p) {n : Fin 44}
    (hlo : 0 < n.val) (hhi : n.val < 0x2B) :
    ∃ i ∈ placeholderCalls, firmwareAt p p.hCall[n] = some (.instr i) := by
  obtain ⟨-, -, hcall, -⟩ := hd
  obtain ⟨x, hx, hb⟩ := Option.map_eq_some_iff.mp (hcall n)
  rw [Selected.behaviour_placeholder (decodeCall_mem_placeholderCalls hlo hhi)] at hb
  obtain ⟨i, rfl, rfl | ⟨-, hi⟩⟩ := Selected.eq_instr_of_behaviour hb
  · exact ⟨_, by decide, hx⟩
  · exact ⟨i, hi, hx⟩

/-- At the entry of the Debug call the dispatch finds it. -/
theorem firmwareAt_debug {p : Params} (hd : Params.Dispatches p) :
    firmwareAt p p.hCall[(43 : Fin 44)] = some (.instr .callDebug) := by
  obtain ⟨-, -, hcall, -⟩ := hd
  obtain ⟨x, hx, hb⟩ := Option.map_eq_some_iff.mp (hcall 43)
  obtain ⟨i, rfl, rfl | ⟨hj, -⟩⟩ := Selected.eq_instr_of_behaviour (j := .callDebug) hb
  · exact hx
  · cases hj

/-- Each placeholder is the subroutine return (R183). -/
theorem exec_placeholderCalls (s : State) :
    (placeholderCalls.map fun i => exec i s) = List.replicate 42 s.subroutineReturn := rfl

theorem exec_placeholder {i : Instr} (h : i ∈ placeholderCalls) (s : State) : exec i s = s.subroutineReturn := by
  have hmem := List.mem_map_of_mem (f := fun i => exec i s) h
  rw [exec_placeholderCalls] at hmem
  exact List.eq_of_mem_replicate hmem

theorem subroutineReturn_of_mode {s : State} {m : Mode} (hm : s.mode? = some m) :
    s.subroutineReturn = .next (s.setPc (s.r14.get m.bank)) := by
  simp only [State.subroutineReturn, x_14, hm, Option.map_some]

/-- A handler's return goes to `ROUTER_RET`, the link that the router's call left. -/
theorem subroutineReturn_inCall (s : State) (pc : Word) (m : List Host.Cell) (l : List Pending) :
    (s.inCall pc m l).subroutineReturn = .next (State.setPc (s.inCall pc m l) s.params.routerRet) :=
  subroutineReturn_of_mode (mode?_inCall s pc m l)

/-- Settles O52: the handler of a placeholder is the subroutine return. -/
theorem routedPlaceholderNetEffect : Obligations.RoutedPlaceholderNetEffect := by
  intro s n immHi hlo hhi hord ⟨ho, hmode, hwf⟩ hq hl ht hnext hidle hd himage hguest halign hword hpc hslot
  have h : RoutedSwi s n :=
    ⟨hord, hwf, ⟨ho, hq, hl, ht⟩, hnext, hidle, hd, himage, hguest, halign, ⟨immHi, hword⟩, hpc, hslot⟩
  obtain ⟨i, hi, hat⟩ := firmwareAt_placeholder hd hlo hhi
  have hne : i ≠ .routerResume := fun he => absurd (he ▸ hi) (by decide)
  have hframe : Memory.read4 s.unlisted s.pushedMem (s.r13.svc - 4) = s.cpsr := Memory.read4_write4 hwf
  obtain ⟨l, hpending, hrun⟩ := h.runFor_callReturned hmode hat hne
    (fun l => (exec_placeholder hi _).trans (subroutineReturn_inCall s _ _ l)) hframe
  exact ⟨_, hrun, rfl, rfl, rfl, rfl, hframe, fun c hc => Memory.read1_write4_apart hwf hc, rfl, hpending⟩

/-- Settles O53: the handler is the write of r0 to `DIAG_ADDR`, apart from the frame, and the subroutine return. -/
theorem routedDebugNetEffect : Obligations.RoutedDebugNetEffect := by
  intro s immHi hord ⟨ho, hmode, hwf⟩ hq hl ht hnext hidle hd himage hguest halign hword hpc hslot hdiag
  have h : RoutedSwi s 43 :=
    ⟨hord, hwf, ⟨ho, hq, hl, ht⟩, hnext, hidle, hd, himage, hguest, halign, ⟨immHi, hword⟩, hpc, hslot⟩
  let m := Memory.write4 s.unlisted s.pushedMem s.params.diagAddr s.gpr[0]
  have hpushed : Memory.wf s.unlisted s.pushedMem = true := Memory.wf_write4 hwf
  have hframe : Memory.read4 s.unlisted m (s.r13.svc - 4) = s.cpsr :=
    (Memory.read4_write4_apart hpushed hdiag.symm).trans (Memory.read4_write4 hwf)
  have hexec (l : List Pending) : exec .callDebug (s.inCall s.params.hCall[(43 : Fin 44)] s.pushedMem l) =
      .next (State.setPc (s.inCall s.params.hCall[(43 : Fin 44)] m l) s.params.routerRet) := by
    show (State.store4 _ _ _).subroutineReturn = _
    rw [store4_ordinary (s := s.inCall _ _ l) hord]
    exact subroutineReturn_inCall s _ m l
  obtain ⟨l, hpending, hrun⟩ := h.runFor_callReturned hmode (firmwareAt_debug hd) nofun hexec hframe
  refine ⟨_, hrun, rfl, rfl, rfl, rfl, hframe, Memory.read4_write4 hpushed, fun c hc hcd => ?_, rfl, hpending⟩
  exact (Memory.read1_write4_apart hpushed hcd).trans (Memory.read1_write4_apart hwf hc)

end Sys2Proof.Machine
end

section
/-! PROOFS. The BIOS call family: the placeholder handlers, the Debug call and the first step of SoftReset
(42_bios_calls.md, 43_softreset.md). -/

namespace Sys2Proof.Machine

/-! ### The handlers that return (R183, R184, R229) -/

/-- Settles O45: the handler of a placeholder is the subroutine return, one write of `PC`. -/
theorem placeholderReturnsAtOnce : Obligations.PlaceholderReturnsAtOnce := by
  intro s m hm i hi
  exact ⟨_, (exec_placeholder hi s).trans (subroutineReturn_of_mode hm), transferredTo_setPc s _⟩

/-- Settles O46: the store leaves mode and link as they were, and the return after it leaves memory as it was. -/
theorem debugWritesDiagnosticWord : Obligations.DebugWritesDiagnosticWord := by
  intro s m hm
  let u := s.store4 s.params.diagAddr s.gpr[0]
  have hmode : u.mode? = some m := by simpa [u, State.mode?] using hm
  have hlink : u.r14 = s.r14 := State.store4_r14 ..
  have hexec : exec .callDebug s = .next (u.setPc (s.r14.get m.bank)) := by
    rw [← hlink]
    exact subroutineReturn_of_mode hmode
  exact ⟨_, hexec, transferredTo_setPc u _, fun hord hwf => store4_ordinary_bytes hord hwf ⟨rfl, rfl, rfl⟩⟩

/-! ### SoftReset (R186, R240, R241) -/

/-- Settles O47: the call is S1, which enters IRQ mode by its mode field alone. -/
theorem softResetStartsWithS1 : Obligations.SoftResetStartsWithS1 := by
  rintro s ⟨m, hm, hne⟩
  exact ⟨_, sequencerS1_eq hm hne, mode?_seqMode .., fun _ => Psr.getLsbD_withMode _ _ _, rfl,
    State.followedBy_nextStep? ..⟩

end Sys2Proof.Machine
end

section
/-! PROOFS. The sequencer family: S5 by itself, a second run of SoftReset, and the entry that S6 selects
(43_softreset.md). -/

namespace Sys2Proof.Machine

/-! ### Canonical memory, written where nothing changes -/

namespace Memory

variable {u : Nat → Byte}

/-- In canonical memory a write of the byte that stands there leaves the list as it is. -/
theorem write_read_from {m : List Host.Cell} {a : Nat} :
    ∀ {lo : Nat}, wfFrom u lo m = true → write u m a (read u m a) = m := by
  induction m with
  | nil => intro lo _; simp [write, read]
  | cons c rest ih =>
    obtain ⟨b, w⟩ := c
    intro lo h
    obtain ⟨-, -, hw, hrest⟩ := wfFrom_cons.mp h
    obtain hlt | rfl | hgt := lt_trichotomy a b
    · have hread : read u rest a = u a := read_of_lt hrest (by omega)
      simp [write, read, hlt, hlt.ne, hread]
    · simp [write, read, hw]
    · simp [write, read, hgt.not_gt, hgt.ne', ih hrest]

theorem write1_read1 {m : List Host.Cell} (h : wf u m = true) (a : Word) : write1 u m a (read1 u m a) = m :=
  write_read_from h

theorem clear_eq_self_of_zeros (n : Nat) : ∀ {m : List Host.Cell} {a : Word}, wf u m = true →
    (∀ c : Word, (c - a).toNat < n → read1 u m c = 0) → clear u m a n = m := by
  induction n with
  | zero => intros; rfl
  | succ n ih =>
    intro m a h hzero
    have hfirst : write1 u m a 0 = m := by rw [← hzero a (by simp), write1_read1 h]
    have hrest : ∀ c : Word, (c - (a + 1)).toNat < n → read1 u m c = 0 := fun c hc => hzero c (by bv_omega)
    rw [clear, hfirst, ih h hrest]

theorem clear_clear {m : List Host.Cell} (h : wf u m = true) (a : Word) {n : Nat} (hn : n ≤ 2 ^ 32) :
    clear u (clear u m a n) a n = clear u m a n :=
  clear_eq_self_of_zeros n (wf_clear n h) fun _ hc => by rw [read1_clear n h hn, if_pos hc]

end Memory

/-! ### The mode field written again -/

theorem Psr.withMode_congr {w w' : Word} (h : ∀ j, 5 ≤ j → w'.getLsbD j = w.getLsbD j) (m : Mode) :
    Psr.withMode w' m = Psr.withMode w m := by
  apply BitVec.eq_of_getLsbD_eq
  intro j hj
  by_cases hlow : j < 5
  · have hmask : ∀ i : Fin 5, (0xFFFFFFE0#32).getLsbD i.val = false := by decide
    simp [Psr.withMode, hmask ⟨j, hlow⟩]
  · simp only [Psr.getLsbD_withMode _ _ _ (Nat.le_of_not_lt hlow), h j (Nat.le_of_not_lt hlow)]

/-! ### S5 (R245) -/

/-- Settles O48: in System mode the registers S5 zeroes are the common ones, and S6 is next. -/
theorem s5ZeroesRegisters : Obligations.S5ZeroesRegisters := by
  intro s hrun hm
  have hstep : step s = s.sampled.sequencerS5 := step_of_runsNext_part hrun
  exact ⟨_, hstep.trans (sequencerS5_eq hm), rfl, State.followedBy_nextStep? ..⟩

/-! ### A run of SoftReset from a firmware entry -/

/-- What is selected at `PC` and is neither a numbered step, nor a fetched word, nor the executor's stands there as
firmware (R290). -/
theorem firmwareAt_of_selected {s : State} {x : Selected} (h : s.selected = x) (hmicro : ∀ m, x ≠ .part (.micro m))
    (hfetched : ∀ i, x ≠ .fetched i) (hexec : x ≠ .executor) : firmwareAt s.params s.pc = some x := by
  unfold State.selected at h
  split at h
  next => exact absurd h.symm hexec
  next =>
    split at h
    next m _ => exact absurd h.symm (hmicro m)
    next =>
      split at h
      next y hy => rwa [← h]
      next =>
        unfold State.fetched at h
        split at h
        next => exact absurd h.symm hexec
        next =>
          split at h
          next i _ => exact absurd h.symm (hfetched i)
          next => exact absurd h.symm hexec

/-- At the same `PC`, with no numbered step next, the sequencer is selected again. -/
theorem selected_sequencer_again {s t : State} (hp : t.params = s.params) (hpc : t.pc = s.pc)
    (ht : Psr.t t.cpsr = false) (hnext : t.nextStep? = none)
    (hsel : s.selected = .part .sequencer ∨ s.selected = .instr .callSoftReset) :
    t.selected = .part .sequencer ∨ t.selected = .instr .callSoftReset := by
  have hat : firmwareAt t.params t.pc = firmwareAt s.params s.pc := by rw [hp, hpc]
  exact hsel.imp
    (fun h => selected_of_firmwareAt ht hnext (hat.trans (firmwareAt_of_selected h nofun nofun nofun)))
    (fun h => selected_of_firmwareAt ht hnext (hat.trans (firmwareAt_of_selected h nofun nofun nofun)))

theorem step_of_runFor_succ {n : Nat} {s t : State} (h : runFor (n + 1) s = .next t) : ∃ u, step s = .next u := by
  have hcore : core.step s = step s := rfl
  simp only [runFor, Host.Core.run, hcore] at h
  split at h
  next u hu => exact ⟨u, hu⟩
  next => cases h
  next => cases h

/-- A run of SoftReset that reaches its end has ended in `State.softReset`: S1 stops where the mode is User or none. -/
theorem eq_softReset_of_runFor {s t : State} (h : s.Quiet)
    (hsel : s.selected = .part .sequencer ∨ s.selected = .instr .callSoftReset) (hrun : runFor 6 s = .next t) :
    t = s.softReset := by
  obtain ⟨u, hu⟩ := step_of_runFor_succ hrun
  rw [step_sequencer h hsel, State.sequencerS1] at hu
  obtain ⟨v, hv, -⟩ := andThen_next hu
  obtain ⟨⟨m, hm, hne⟩, -⟩ := enterMode_next hv
  exact next_inj (hrun.symm.trans (runFor_softReset h hm hne hsel))

/-! ### The flag byte in the clear range (R248) -/

/-- Settles O51: S3 has zeroed the flag byte that S6 reads. -/
theorem flagInClearRangeSelectsRom : Obligations.FlagInClearRangeSelectsRom := by
  intro s t ⟨ho, hq, _⟩ hl ht hord hwf hsel hin hrun
  have hflag : s.softReset.byteAt s.params.entryFlagAddr = 0 := by
    rw [byteAt_softReset_ordinary hord, read1_clearedMem hwf, if_pos hin]
  rw [eq_softReset_of_runFor ⟨ho, hq, hl, ht⟩ hsel hrun, pc_softReset_ordinary hord, hflag]
  rfl

/-! ### A second run (R249) -/

/-- The state SoftReset ends in, back at the entry of s. -/
def State.resetAgain (s : State) : State := { s.softReset with pc := s.pc }

theorem resetAgain_cpsr (s : State) : s.resetAgain.cpsr = s.softReset.cpsr := by simp only [State.resetAgain]

theorem resetAgain_freeCount {s : State} (hord : s.OrdinaryMem) : s.resetAgain.freeCount = s.freeCount := by
  simp only [State.resetAgain, freeCount_softReset_ordinary hord]

theorem mode?_resetAgain (s : State) : s.resetAgain.mode? = some .sys :=
  (Psr.mode?_clearT _).trans (Psr.mode?_withMode _ _)

theorem quiet_resetAgain {s : State} (h : s.Quiet) : s.resetAgain.Quiet := by
  obtain ⟨ho, hq, hl, ht⟩ := h
  refine ⟨ho, hq, hl, ?_⟩
  rw [resetAgain_cpsr]
  exact (getLsbD_cpsr_softReset ht (le_refl 5)).trans ht

/-- The bytes S3 writes are 0 already, and the list is canonical. -/
theorem clearedMem_resetAgain {s : State} (hord : s.OrdinaryMem) (hwf : s.memWf = true) :
    s.resetAgain.clearedMem = s.clearedMem := by
  have hmem : s.resetAgain.mem = s.clearedMem := by
    simp only [State.resetAgain, State.softReset, flagRead_ordinary hord]
  show Memory.clear s.unlisted s.resetAgain.mem s.params.wramClearBase 0x200 = s.clearedMem
  rw [hmem, State.clearedMem, Memory.clear_clear hwf _ (by decide)]

/-- S6 reads the same flag byte, and the accesses leave the same contents. -/
theorem flagRead_resetAgain {s : State} (hord : s.OrdinaryMem) (hwf : s.memWf = true) :
    s.resetAgain.flagRead.1 = s.flagRead.1 ∧ s.resetAgain.flagRead.2.mem = s.flagRead.2.mem ∧
      s.resetAgain.flagRead.2.freeCount = s.flagRead.2.freeCount := by
  rw [flagRead_ordinary (s := s.resetAgain) hord, clearedMem_resetAgain hord hwf, flagRead_ordinary hord]
  refine ⟨rfl, rfl, ?count⟩
  simp only [resetAgain_freeCount hord]

/-- What the sequencer writes it has written already: each cell holds the constant, and the memory is cleared. -/
theorem softReset_resetAgain {s : State} (hord : s.OrdinaryMem) (hwf : s.memWf = true) (ht : Psr.t s.cpsr = false) :
    s.resetAgain.softReset = s.softReset := by
  have hcpsr : Psr.withMode s.resetAgain.cpsr .irq = Psr.withMode s.cpsr .irq :=
    Psr.withMode_congr (fun _ hj => by rw [resetAgain_cpsr, getLsbD_cpsr_softReset ht hj]) .irq
  obtain ⟨hbyte, hmem, hcount⟩ := flagRead_resetAgain hord hwf
  rw [State.softReset, hcpsr, hbyte, hmem, hcount]
  rfl

/-- Settles O50: the second run starts in System mode at the same entry, and every write repeats the first run's. -/
theorem softResetIdempotent : Obligations.SoftResetIdempotent := by
  intro s t ⟨ho, hq, _⟩ hl ht hord hwf hsel hrun
  have hquiet : s.Quiet := ⟨ho, hq, hl, ht⟩
  obtain rfl := eq_softReset_of_runFor hquiet hsel hrun
  have hquiet' := quiet_resetAgain hquiet
  have hsel' := selected_sequencer_again (s := s) (t := s.resetAgain) rfl rfl hquiet'.t_eq_false rfl hsel
  calc runFor 6 s.resetAgain
      = .next s.resetAgain.softReset := runFor_softReset hquiet' (mode?_resetAgain s) nofun hsel'
    _ = .next s.softReset := by rw [softReset_resetAgain hord hwf ht]

end Sys2Proof.Machine
end

section
/-! PROOFS. The exceptions family: User mode left only by a trap, trap requests, the boundary's sample, the return of each
kind, entry then return, and the firmware's slots and bodies (60_exceptions.md). -/

namespace Sys2Proof.Machine

/-! ### User mode (R297)

In User mode no operation changes the mode field but a trap entry: ENTER_MODE is refused, WRITE_CPSR leaves the control
bits, a return needs a mode with a saved status word, and the firmware's steps start outside User mode. -/

/-- t has the vector in `PC` and the status word of a trap entry from s (R267). -/
def TrapEntered (s t : State) : Prop :=
  ∃ k : TrapKind, t.pc = vectorAddress s.params k ∧ EntryStatusWord k s.cpsr t.cpsr

/-- From User mode at s, t is in User mode again or is at a trap's vector. -/
def UserKeptOrTrapped (s t : State) : Prop := s.mode? = some .usr → t.mode? = some .usr ∨ TrapEntered s t

theorem userKeptOrTrapped_of_cpsr {s t : State} (h : t.cpsr = s.cpsr) : UserKeptOrTrapped s t := fun hu =>
  .inl (by rw [State.mode?, h]; exact hu)

theorem userKeptOrTrapped_of_notUser {s t : State} {m : Mode} (hm : s.mode? = some m) (hne : m ≠ .usr) :
    UserKeptOrTrapped s t := fun hu => absurd (Option.some.inj (hm.symm.trans hu)) hne

/-- Where a step starts from u, which has the status word and the parameters of s. -/
theorem UserKeptOrTrapped.of_same {s u t : State} (hc : u.cpsr = s.cpsr) (hp : u.params = s.params)
    (h : UserKeptOrTrapped u t) : UserKeptOrTrapped s t := by
  simpa only [UserKeptOrTrapped, TrapEntered, State.mode?, hc, hp] using h

theorem spsrBank_mode_ne_usr (b : SpsrBank) : b.mode ≠ .usr := by cases b <;> decide

theorem trapEntered_enterTrap (s : State) (k : TrapKind) (a : Word) : TrapEntered s (s.enterTrap k a) :=
  ⟨k, rfl, entryStatusWord_entryStatus k s.cpsr⟩

theorem userKeptOrTrapped_atBoundary (s : State) (a : Word) : UserKeptOrTrapped s (s.atBoundary a) := by
  obtain ⟨k, -, -, ht⟩ | ⟨-, ht⟩ := atBoundary_cases s a
  · rw [ht]; exact fun _ => .inr (trapEntered_enterTrap s.sampled k a)
  · rw [ht]; exact userKeptOrTrapped_of_cpsr rfl

/-- A firmware step in User mode leaves the mode. -/
theorem PartEffect.userKeptOrTrapped {s t : State} {p : Part} (h : PartEffect s p t) : UserKeptOrTrapped s t := by
  cases h with
  | slot => exact userKeptOrTrapped_of_cpsr rfl
  | mode _ _ _ _ _ _ hm hne => exact userKeptOrTrapped_of_notUser hm hne
  | push _ h => exact userKeptOrTrapped_of_notUser (routerStart_next h).1 nofun
  | number _ h => rw [routerRead_next h]; exact userKeptOrTrapped_of_cpsr (by simp)
  | call _ _ h => exact userKeptOrTrapped_of_cpsr (routerCall_cpsr h)
  | body k _ h =>
    obtain ⟨b, pc, -, -, hm⟩ := excReturn_shape h
    exact userKeptOrTrapped_of_notUser hm (spsrBank_mode_ne_usr b)
  | clear _ h => rw [sequencerS3_next h]; exact userKeptOrTrapped_of_cpsr (by simp)
  | zero _ h => cases next_inj h; unfold State.zeroR0toR12; split <;> exact userKeptOrTrapped_of_cpsr rfl
  | leave _ h =>
    rw [sequencerS6_next h]
    exact fun hu => .inl ((Psr.mode?_clearT _).trans hu)

/-- An instruction in User mode leaves the mode or takes a trap. -/
theorem Effect.userKeptOrTrapped {s t : State} {i : Instr} (h : Effect s i t) : UserKeptOrTrapped s t := by
  cases h with
  | masked | spsr | reply | jump => exact userKeptOrTrapped_of_cpsr rfl
  | trap _ k a => exact fun _ => .inr (trapEntered_enterTrap s k a)
  | mode _ _ _ hm hne => exact userKeptOrTrapped_of_notUser hm hne
  | ret _ b _ hm => exact userKeptOrTrapped_of_notUser hm (spsrBank_mode_ne_usr b)
  | reg _ _ _ _ h => exact userKeptOrTrapped_of_cpsr (by rw [setX_next h])
  | cpsr m v flags control hm =>
    intro hu
    obtain rfl : m = .usr := Option.some.inj (hm.symm.trans hu)
    exact .inl ((mode?_writtenStatus_usr s.cpsr v flags control).trans hu)
  | boundary a => exact userKeptOrTrapped_atBoundary s a
  | debug => exact userKeptOrTrapped_of_cpsr (by simp)
  | call _ _ h => exact userKeptOrTrapped_of_cpsr (routerCall_cpsr h)
  | resume _ h => exact fun hu => absurd hu (routerResume_shape h).2.2.1
  | softReset _ h => exact (runPart_effect (p := .sequencer) h).userKeptOrTrapped

/-- Settles O57, over the ways a step can go: the consumed request, the boundary's sample and the fetch leave the status
word and the parameters. -/
theorem userModeLeftOnlyByTrap : Obligations.UserModeLeftOnlyByTrap := by
  intro s t hu h hleft
  have hstep : UserKeptOrTrapped s t := by
    obtain ⟨-, ⟨q, rest, i, bytes, -, -, hex⟩ | ⟨k, -, -, rfl⟩ | ⟨i, -, -, -, hex⟩ | ⟨i, -, -, -, hex⟩ |
      ⟨p, -, -, -, hpart⟩⟩ := step_next h
    · exact (exec_effect hex).userKeptOrTrapped.of_same rfl rfl
    · exact userKeptOrTrapped_atBoundary s s.pc
    · exact (exec_effect hex).userKeptOrTrapped.of_same rfl rfl
    · exact (exec_effect hex).userKeptOrTrapped.of_same (by simp) (by simp)
    · exact (runPart_effect hpart).userKeptOrTrapped.of_same rfl rfl
  exact (hstep hu).resolve_left hleft

/-! ### Trap requests (R267 to R275, R287) -/

/-- Both rows of a trap request have the meaning of `trapRequest`. -/
theorem exec_trapRequest {k : TrapKind} {a : Word} {i : Instr} (hi : i ∈ [trapRow k a, .trapReq k a]) (s : State) :
    exec i s = s.trapRequest k a := by
  simp only [List.mem_cons, List.not_mem_nil, or_false] at hi
  rcases hi with rfl | rfl
  · cases k <;> rfl
  · rfl

theorem trapRequest_of_unmasked {s : State} {k : TrapKind} (h : s.masked k = false) (a : Word) :
    s.trapRequest k a = .next (s.enterTrap k a) := by
  simp [State.trapRequest, h]

theorem trapRequest_of_masked {s : State} {k : TrapKind} (h : s.masked k = true) (a : Word) :
    s.trapRequest k a = .next s := by
  simp [State.trapRequest, h]

/-- A request that no mask holds back is the entry of R267, by either row. -/
theorem exec_trapRequest_taken {s : State} {k : TrapKind} {a : Word} {i : Instr} (hi : i ∈ [trapRow k a, .trapReq k a])
    (h : s.masked k = false) : ∃ t, exec i s = .next t ∧ TrapTaken k a s t :=
  ⟨_, (exec_trapRequest hi s).trans (trapRequest_of_unmasked h a), trapTaken_enterTrap k a s⟩

theorem exec_trapRequest_masked {s : State} {k : TrapKind} {a : Word} {i : Instr} (hi : i ∈ [trapRow k a, .trapReq k a])
    (h : s.masked k = true) : exec i s = .next s := (exec_trapRequest hi s).trans (trapRequest_of_masked h a)

theorem eq_enterTrap_of_trapReq {s u : State} {k : TrapKind} {a : Word} (hmask : s.masked k = false)
    (h : exec (.trapReq k a) s = .next u) : u = s.enterTrap k a :=
  next_inj (h.symm.trans (trapRequest_of_unmasked hmask a))

/-- No mask holds back a synchronous kind (R287). -/
theorem masked_synchronous {k : TrapKind} (hk : k ∈ [TrapKind.und, .swi, .pabt, .dabt, .rsvd]) (s : State) :
    s.masked k = false := by
  simp only [List.mem_cons, List.not_mem_nil, or_false] at hk
  rcases hk with rfl | rfl | rfl | rfl | rfl <;> rfl

/-- Settles O24: no mask holds the request back, so it is the entry. -/
theorem synchronousTrapEntry : Obligations.SynchronousTrapEntry :=
  fun s _ _ hk _ hi => exec_trapRequest_taken hi (masked_synchronous hk s)

/-- Settles O25: the mask of IRQ is I and that of FIQ is F; each decides between the entry and no change. -/
theorem interruptEntryUnlessMasked : Obligations.InterruptEntryUnlessMasked := by
  refine fun s a => ⟨fun i hi => ?irq, fun i hi => ?fiq⟩
  case irq => exact ⟨exec_trapRequest_taken (k := .irq) hi, exec_trapRequest_masked (k := .irq) hi⟩
  case fiq => exact ⟨exec_trapRequest_taken (k := .fiq) hi, exec_trapRequest_masked (k := .fiq) hi⟩

/-- I, F, T and the mode field are the whole low byte of a status word (R30). -/
theorem Psr.lowByte_congr {w w' : Word} (hfield : Psr.field w = Psr.field w') (ht : Psr.t w = Psr.t w')
    (hf : Psr.f w = Psr.f w') (hi : Psr.i w = Psr.i w') : w.extractLsb' 0 8 = w'.extractLsb' 0 8 := by
  apply BitVec.eq_of_getLsbD_eq
  intro j hj
  simp only [BitVec.getLsbD_extractLsb', Nat.zero_add, hj]
  by_cases hlow : j < 5
  · simpa only [Psr.field, BitVec.getLsbD_extractLsb', Nat.zero_add, hlow] using congrArg (·.getLsbD j) hfield
  · obtain rfl | rfl | rfl : j = 5 ∨ j = 6 ∨ j = 7 := by omega
    · exact congrArg _ ht
    · exact congrArg _ hf
    · exact congrArg _ hi

/-- Settles O14: no mask holds RESET back, and the entry's status word has each field of the low byte fixed. -/
theorem resetRequestAlwaysTaken : Obligations.ResetRequestAlwaysTaken := by
  intro s a i hi
  obtain ⟨t, hex, ⟨hfield, ht, hirq, hfiq, hhigh⟩, -, hpc, hframe⟩ := exec_trapRequest_taken (k := .reset) hi rfl
  have hfset : Psr.f t.cpsr = true := hfiq.trans (by simp)
  exact ⟨t, hex, Psr.lowByte_congr (w' := 0xD3) hfield ht hfset hirq, hhigh, hpc, hframe⟩

/-- Settles O26: the entry of R267 for SWI, whose descriptor is Supervisor mode and vector 2. -/
theorem swiEntryCells : Obligations.SwiEntryCells := by
  intro s a
  obtain ⟨t, hex, ⟨hfield, ht, hirq, hfiq, hhigh⟩, hcells, hpc, hframe⟩ :=
    exec_trapRequest_taken (s := s) (k := .swi) (a := a) (List.mem_cons_self ..) rfl
  obtain ⟨hlink, hsaved⟩ := hcells nofun
  exact ⟨t, hex, hlink, hsaved, hfield, hirq, ht, hfiq, hhigh, hpc, hframe⟩

/-! ### The boundary (R285) -/

theorem interruptNow_fiq {s : State} {l : Lines} {ls : List Lines} (hl : s.lines = l :: ls) (hline : l.fiq = true)
    (hmask : Psr.f s.cpsr = false) : s.interruptNow = some .fiq := by
  simp [State.interruptNow, hl, hline, hmask]

theorem interruptNow_irq {s : State} {l : Lines} {ls : List Lines} (hl : s.lines = l :: ls)
    (hfiq : ¬ (l.fiq = true ∧ Psr.f s.cpsr = false)) (hline : l.irq = true) (hmask : Psr.i s.cpsr = false) :
    s.interruptNow = some .irq := by
  simp [State.interruptNow, hl, hfiq, hline, hmask]

theorem interruptNow_none {s : State} {l : Lines} {ls : List Lines} (hl : s.lines = l :: ls)
    (hfiq : ¬ (l.fiq = true ∧ Psr.f s.cpsr = false)) (hirq : ¬ (l.irq = true ∧ Psr.i s.cpsr = false)) :
    s.interruptNow = none := by
  simp [State.interruptNow, hl, hfiq, hirq]

theorem sampled_of_cons {s : State} {l : Lines} {ls : List Lines} (hl : s.lines = l :: ls) :
    s.sampled = { s with lines := ls } := by
  simp only [State.sampled, hl, List.tail_cons]

theorem sampled_of_nil {s : State} (hl : s.lines = []) : s.sampled = s := by
  simp only [State.sampled, hl, List.tail_nil]
  rw [← hl]

/-- Where the boundary takes an interrupt, that entry is all it does but for the sample used up. -/
theorem trapTaken_atBoundary {s : State} {k : TrapKind} {l : Lines} {ls : List Lines} (hl : s.lines = l :: ls)
    (hk : s.interruptNow = some k) (a : Word) : TrapTaken k a { s with lines := ls } (s.atBoundary a) := by
  rw [State.atBoundary, hk, sampled_of_cons hl]
  exact trapTaken_enterTrap k a _

theorem atBoundary_of_none {s : State} (h : s.interruptNow = none) (a : Word) : s.atBoundary a = s.sampled := by
  rw [State.atBoundary, h]

/-- Settles O29: what `interruptNow` answers in each branch of R285. -/
theorem boundarySamplesLines : Obligations.BoundarySamplesLines := by
  refine fun s next => ⟨fun l ls hl => ⟨fun hline hmask => ?fiq, fun hfiq hline hmask => ?irq, fun hfiq hirq => ?none⟩,
    fun hl => ?nil⟩
  case fiq => exact ⟨_, rfl, trapTaken_atBoundary hl (interruptNow_fiq hl hline hmask) next⟩
  case irq => exact ⟨_, rfl, trapTaken_atBoundary hl (interruptNow_irq hl hfiq hline hmask) next⟩
  case none =>
    rw [← sampled_of_cons hl, ← atBoundary_of_none (interruptNow_none hl hfiq hirq) next]
    rfl
  case nil =>
    have hnow : s.interruptNow = none := by simp only [State.interruptNow, hl]
    exact congrArg Host.Outcome.next ((atBoundary_of_none hnow next).trans (sampled_of_nil hl))

theorem step_of_interruptNow {s : State} {k : TrapKind} (ho : s.outcome = .running) (hq : s.requests = [])
    (hk : s.interruptNow = some k) : step s = .next (s.atBoundary s.pc) := by
  simp only [step, ho, stepRunning, hq, hk]

/-- Settles O8: the boundary's entry is the whole step. -/
theorem stepTakesInterruptAtBoundary : Obligations.StepTakesInterruptAtBoundary := by
  intro s l ls ho hq hl
  have htaken : ∀ k, s.interruptNow = some k → ∃ t, step s = .next t ∧ TrapTaken k s.pc { s with lines := ls } t :=
    fun k hk => ⟨_, step_of_interruptNow ho hq hk, trapTaken_atBoundary hl hk s.pc⟩
  exact ⟨fun hline hmask => htaken .fiq (interruptNow_fiq hl hline hmask),
    fun hfiq hline hmask => htaken .irq (interruptNow_irq hl hfiq hline hmask)⟩

/-! ### The return of each kind (R262, R276 to R284) -/

/-- Settles O28: the descriptors' table. -/
theorem returnAdjustments : Obligations.ReturnAdjustments := ⟨rfl, rfl, rfl, rfl, rfl, rfl, rfl, rfl⟩

theorem exec_returnRow (k : TrapKind) (s : State) : exec (returnRow k) s = s.excReturn k := by cases k <;> rfl

theorem exists_adjustment {k : TrapKind} (hk : k ≠ .reset) : ∃ adj, k.adjustment? = some adj := by
  cases k
  case reset => exact absurd rfl hk
  all_goals exact ⟨_, rfl⟩

theorem excReturn_eq_restoreStatus {k : TrapKind} {adj : Adjustment} (hadj : k.adjustment? = some adj) (s : State) :
    s.excReturn k = s.restoreStatus k.entryMode adj := by
  simp only [State.excReturn, hadj]

/-- In the kind's own mode the return is the two writes of R123 from the kind's bank. -/
theorem excReturn_visible {s : State} {k : TrapKind} {adj : Adjustment} (hadj : k.adjustment? = some adj)
    (hm : s.mode? = some k.entryMode) : s.excReturn k = s.returnFrom k.entryBank adj :=
  (excReturn_eq_restoreStatus hadj s).trans (restoreStatus_visible hm (spsrBank_entryMode k) adj)

/-- The row of the kind, and the return word with the kind's adjustment, in the kind's mode. -/
theorem exec_rowOrWord {s : State} {k : TrapKind} {adj : Adjustment} {word i : Instr} (hadj : k.adjustment? = some adj)
    (hword : ∀ u, exec word u = u.returnWord adj) (hm : s.mode? = some k.entryMode) (hi : i ∈ [returnRow k, word]) :
    exec i s = s.returnFrom k.entryBank adj := by
  simp only [List.mem_cons, List.not_mem_nil, or_false] at hi
  rcases hi with rfl | rfl
  · rw [exec_returnRow, excReturn_visible hadj hm]
  · rw [hword, returnWord_of_mode hm, restoreStatus_visible hm (spsrBank_entryMode k)]

/-- Both return, in one step, to v: the link plus the adjustment. -/
theorem returnedTo_rowOrWord {s : State} {k : TrapKind} {adj : Adjustment} {word : Instr} {v : Word}
    (hadj : k.adjustment? = some adj) (hword : ∀ u, exec word u = u.returnWord adj)
    (hv : s.r14.get k.entryBank.bank + adj.word = v) (hm : s.mode? = some k.entryMode)
    (hsome : (Psr.mode? (s.spsr.get k.entryBank)).isSome = true) :
    ∀ i ∈ [returnRow k, word], ∃ t, exec i s = .next t ∧ ReturnedTo s t (s.spsr.get k.entryBank) v := by
  subst hv
  exact fun i hi => ⟨_, (exec_rowOrWord hadj hword hm hi).trans (returnFrom_of_mode hsome adj), rfl⟩

theorem add_minus4 (x : Word) : x + Adjustment.minus4.word = x - 4 := by rw [BitVec.sub_eq_add_neg]; rfl

theorem add_minus8 (x : Word) : x + Adjustment.minus8.word = x - 8 := by rw [BitVec.sub_eq_add_neg]; rfl

/-- Settles O30: each row and its word are the one return of the kind's bank, with the kind's adjustment. -/
theorem returnOfEachKind : Obligations.ReturnOfEachKind := by
  intro s
  refine ⟨fun k adj hadj hm hnone => ⟨_, ?noMode, rfl⟩, ?und, ?swi, ?pabt, ?dabt, ?rsvd, ?irq, ?fiq⟩
  case noMode => exact (exec_returnRow k s).trans ((excReturn_visible hadj hm).trans (returnFrom_of_noMode hnone adj))
  case und => exact returnedTo_rowOrWord (k := .und) rfl (fun _ => rfl) rfl
  case swi => exact returnedTo_rowOrWord (k := .swi) rfl (fun _ => rfl) rfl
  case pabt => exact returnedTo_rowOrWord (k := .pabt) rfl (fun _ => rfl) (add_minus4 _)
  case dabt => exact returnedTo_rowOrWord (k := .dabt) rfl (fun _ => rfl) (add_minus8 _)
  case rsvd => exact returnedTo_rowOrWord (k := .rsvd) rfl (fun _ => rfl) (add_minus4 _)
  case irq => exact returnedTo_rowOrWord (k := .irq) rfl (fun _ => rfl) (add_minus4 _)
  case fiq => exact returnedTo_rowOrWord (k := .fiq) rfl (fun _ => rfl) (add_minus4 _)

/-- Settles O31: RESET has no adjustment. -/
theorem resetHasNoReturn : Obligations.ResetHasNoReturn := fun _ => rfl

/-- Settles O32: every kind but RESET has an adjustment and a bank, so R123's check of the mode is what stops it. -/
theorem returnInWrongModeFaults : Obligations.ReturnInWrongModeFaults := by
  intro s k hk hm
  obtain ⟨adj, hadj⟩ := exists_adjustment hk
  rw [exec_returnRow, excReturn_eq_restoreStatus hadj, restoreStatus_mismatch (spsrBank_entryMode k) hm]
  rfl

/-! ### Entry then return (R266, R291) -/

/-- Where execution resumes after a trap of kind k at a: the next instruction for UND and SWI, the same one for the others
(R266); t is `CPSR.T` before entry. -/
def resumptionAddress (k : TrapKind) (a : Word) (t : Bool) : Word :=
  if k = .und ∨ k = .swi then a + (if t then 2 else 4) else a

/-- Settles O27: the adjustment takes off what the link adds beyond the resumption point. -/
theorem linkPlusAdjustmentIsResumption : Obligations.LinkPlusAdjustmentIsResumption := by
  intro k adj a t hadj
  cases k <;> cases hadj <;> simp [linkValue, isz, Adjustment.word, BitVec.add_assoc]

/-- In the mode of kind k, over a bank that still holds what the entry at a from the status word c left in it, the return
restores c and resumes where R266 says. -/
theorem excReturn_of_entryCells {s : State} {k : TrapKind} {a c : Word} (hk : k ≠ .reset)
    (hm : s.mode? = some k.entryMode) (hlink : s.r14.get k.entryBank.bank = linkValue k a (Psr.t c))
    (hsaved : s.spsr.get k.entryBank = c) (hc : (Psr.mode? c).isSome = true) :
    exec (returnRow k) s = .next { s with cpsr := c, pc := resumptionAddress k a (Psr.t c) } := by
  obtain ⟨adj, hadj⟩ := exists_adjustment hk
  subst hsaved
  rw [exec_returnRow, excReturn_visible hadj hm, returnFrom_of_mode hc, hlink,
    linkPlusAdjustmentIsResumption k adj a _ hadj]
  rfl

/-- The state after the entry of kind k at a and its return. -/
def State.roundTrip (s : State) (k : TrapKind) (a : Word) : State :=
  { s.enterTrap k a with cpsr := s.cpsr, pc := resumptionAddress k a (Psr.t s.cpsr) }

theorem exec_returnRow_enterTrap {s : State} {k : TrapKind} (hk : k ≠ .reset) (hm : s.mode?.isSome = true) (a : Word) :
    exec (returnRow k) (s.enterTrap k a) = .next (s.roundTrip k a) :=
  excReturn_of_entryCells hk (enterTrap_mode? s k a) (by simp [hk]) (by simp [hk]) hm

theorem onlyBankWritten_roundTrip (s : State) (k : TrapKind) (a : Word) : OnlyBankWritten k.entryBank s (s.roundTrip k a) :=
  ⟨fun _ hc => PerBank.get_set_other _ hc _, fun _ hc => PerSpsr.get_set_other _ hc _, rfl⟩

/-- The entry starts what stands at the vector and nowhere else: at another address the step next is the one that the list
before the entry gives. -/
theorem nextStep?_roundTrip {s : State} {k : TrapKind} {a : Word} (hk : k ≠ .reset)
    (hpc : (s.roundTrip k a).pc ≠ vectorAddress s.params k) :
    (s.roundTrip k a).nextStep? =
      (s.pending.find? fun e => e.position = (s.roundTrip k a).position).map (·.step) := by
  have hpending : (s.roundTrip k a).pending = Pending.dropAt s.pending (s.enterTrap k a).position := by
    simp only [State.roundTrip, State.enterTrap_pending, if_neg hk]
  have hne : (s.roundTrip k a).position ≠ (s.enterTrap k a).position := fun h => hpc (congrArg Position.pc h)
  rw [State.nextStep?, hpending, Pending.find?_dropAt_other hne]

/-- An entry outside Supervisor mode's bank leaves the cells by which a numbered step is found again (log 9). -/
theorem position_roundTrip {s : State} {k : TrapKind} {a : Word} (hpc : (s.roundTrip k a).pc = s.pc)
    (hbank : k.entryBank ≠ .svc) : (s.roundTrip k a).position = s.position := by
  obtain ⟨hlink, hsaved, -⟩ := onlyBankWritten_roundTrip s k a
  have hr14 : (s.roundTrip k a).r14.svc = s.r14.svc := hlink .svc (by revert hbank; cases k.entryBank <;> decide)
  have hspsr : (s.roundTrip k a).spsr.svc = s.spsr.svc := hsaved .svc hbank.symm
  rw [State.position, hpc, hr14, hspsr]
  rfl

/-- Settles O34: the return undoes the entry but for the entered bank's two cells. -/
theorem entryThenReturnRestores : Obligations.EntryThenReturnRestores := by
  intro s u k a hk hm hmask hentry
  obtain rfl := eq_enterTrap_of_trapReq hmask hentry
  refine ⟨_, exec_returnRow_enterTrap hk hm a, rfl, rfl, fun hpc => ?_, onlyBankWritten_roundTrip s k a⟩
  have hnext := nextStep?_roundTrip hk hpc
  refine ⟨hnext, fun hsame hbank => ?_⟩
  rw [hnext, position_roundTrip hsame hbank]
  rfl

/-! ### A nested trap (R291) -/

theorem spsrBank_bank_injective : Function.Injective SpsrBank.bank := by
  intro b c
  cases b <;> cases c <;> decide

/-- Settles O35: the inner entry and return leave the outer bank's link and saved status word, which are all the outer
return reads. -/
theorem nestedTrapKeepsOuterReturn : Obligations.NestedTrapKeepsOuterReturn := by
  intro s u v w k k' a a' hk hk' hbanks hm hmask hmask' hentry hentry' hreturn'
  obtain rfl := eq_enterTrap_of_trapReq hmask hentry
  have hmode : (s.enterTrap k a).mode? = some k.entryMode := enterTrap_mode? s k a
  obtain ⟨w', hreturn, hcpsr, -, -, hlink, hsaved, hframe⟩ :=
    entryThenReturnRestores _ v k' a' hk' (Option.isSome_of_eq_some hmode) hmask' hentry'
  obtain rfl := next_inj (hreturn.symm.trans hreturn')
  refine ⟨hcpsr, _, excReturn_of_entryCells hk ?mode ?link ?saved hm, rfl, rfl, ?gpr, ?fiqHi, ?r13, ?mem⟩
  case mode => rw [State.mode?, hcpsr]; exact hmode
  case link => rw [hlink _ (spsrBank_bank_injective.ne hbanks)]; simp [hk]
  case saved => rw [hsaved _ hbanks]; simp [hk]
  all_goals rw [hframe]; rfl

/-! ### The firmware's slots and bodies (R290) -/

theorem step_of_runsNext_instr {s : State} {i : Instr} (h : s.RunsNext (.instr i)) : step s = exec i s.sampled := by
  obtain ⟨⟨ho, hq, hi⟩, -, hsel⟩ := h
  simp only [step_atPc ho hq hi, runAtPc, selected_sampled, hsel]

/-- Settles O10: the step is what R290 selects, in the state that the boundary's sample leaves. -/
theorem firmwareSlotsAndBodies : Obligations.FirmwareSlotsAndBodies := by
  refine fun s k i => ⟨step_of_runsNext_instr, fun hslot => ?slot, fun hbody => ?body⟩
  case slot => exact ⟨_, step_of_runsNext_part hslot, transferredTo_setPc s.sampled _⟩
  case body =>
    rw [step_of_runsNext_part hbody, exec_returnRow]
    rfl

end Sys2Proof.Machine
end
